-- ==== Sys2Proof/Word.lean ====
section
/-! DEFINITION. The fixed widths of SPX-CORE (00_scope.md R11). -/

namespace Sys2Proof

/-- A register or a bus data word: 32 bits (R11). -/
abbrev Word := BitVec 32

/-- A byte of a buffer, a ROM or a colour channel: 8 bits (R11). -/
abbrev Byte := BitVec 8

/-- A host bus byte address: 24 bits (R11, R70). -/
abbrev Addr := BitVec 24

/-- A format ID: 4 bits (R11). -/
abbrev FormatId := BitVec 4

end Sys2Proof
end

