-- ==== Sys2Proof/Syntax.lean ====
section
/-! DEFINITION. The commands of SPX-CORE, one constructor per row of opcode_table.json (30_encoding.md R103). -/

namespace Sys2Proof

/-- A command. The only explicit operand is SELFMT's format ID; all others are implicit (R102). -/
inductive Instr where
  /-- 0x00, 44_dispatch.md R240. -/
  | nop
  /-- 0x01, 44_dispatch.md R225. -/
  | selfmt (fid : FormatId)
  /-- 0x02, 40_palette_table.md R140. -/
  | ldbank
  /-- 0x03, 40_palette_table.md R142. -/
  | ldpal
  /-- 0x04, 41_palette_resolver.md R165. -/
  | resolve
  /-- 0x05, 44_dispatch.md R230. -/
  | decode
  /-- 0x06, 42_bitplane.md R188. -/
  | deint
  /-- 0x07, 43_glyph.md R205. -/
  | unpack
  deriving DecidableEq, Repr

end Sys2Proof
end

