-- ==== Sys2Proof/WellFormed.lean ====
section
/-! DEFINITION. Which commands are well formed, and the check of an assembler command line (30_encoding.md R117).

The type of `Instr.selfmt` already admits exactly the format IDs 0 to 15, so every term of `Instr` is well formed.
What can be ill formed is the line a host programmer writes, and that is checked here. -/

namespace Sys2Proof

/-- A command is well formed when its operand is one the encoding holds (R100, R102): FID is 0 to 15. -/
def Instr.WellFormed : Instr → Bool
  | .selfmt fid => decide (fid.toNat ≤ 15)
  | .nop | .ldbank | .ldpal | .resolve | .decode | .deint | .unpack => true

/-- A command line of R117: a mnemonic and the numbers that follow it. How the numbers are written (decimal or hex) is
left to the assembler (log 18). -/
structure CommandLine where
  mnemonic : String
  operands : List Nat
  deriving DecidableEq, Repr

/-- The command a line stands for, if the line is one of R117: the mnemonic in upper case, SELFMT with one operand 0 to
15, every other mnemonic with none. -/
def CommandLine.instr? (l : CommandLine) : Option Instr :=
  match l.mnemonic, l.operands with
  | "NOP", [] => some .nop
  | "SELFMT", [f] => if f ≤ 15 then some (.selfmt (BitVec.ofNat 4 f)) else none
  | "LDBANK", [] => some .ldbank
  | "LDPAL", [] => some .ldpal
  | "RESOLVE", [] => some .resolve
  | "DECODE", [] => some .decode
  | "DEINT", [] => some .deint
  | "UNPACK", [] => some .unpack
  | _, _ => none

/-- The line is one the assembler accepts. -/
def CommandLine.WellFormed (l : CommandLine) : Bool := l.instr?.isSome

end Sys2Proof
end

