-- ==== Sys2Proof/Decode.lean ====
section
/-! DEFINITION. The command decoder, total on every 32-bit word (30_encoding.md R104), then the encoder (R117). -/

namespace Sys2Proof

/-- OP, bits 7:0 of a command word (R100). -/
def opField (w : Word) : Byte := w.extractLsb' 0 8

/-- FID, bits 11:8 of a command word (R100). -/
def fidField (w : Word) : FormatId := w.extractLsb' 8 4

/-- RSV, bits 31:12 of a command word (R100). -/
def rsvField (w : Word) : BitVec 20 := w.extractLsb' 12 20

/-- Why a word is no legal command (R104, R105). The machine answers ILLEGAL_CMD to each of them. -/
inductive IllegalWord where
  /-- OP is 0x08 to 0xFF. -/
  | reservedOpcode (op : Byte)
  /-- A bit of RSV is set. -/
  | reservedBits (rsv : BitVec 20)
  /-- FID is not 0 on an opcode other than SELFMT. -/
  | strayFormatId (fid : FormatId)
  deriving DecidableEq, Repr

/-- The legality predicate of R104, as the rule writes it. -/
def legalWord (w : Word) : Bool :=
  decide ((opField w).toNat ≤ 0x07) && rsvField w == 0 && (opField w == 0x01 || fidField w == 0)

/-- The decoder (R103, R104): a command, or the reason the word is illegal. -/
def decode (w : Word) : Except IllegalWord Instr :=
  if rsvField w ≠ 0 then .error (.reservedBits (rsvField w))
  else
    match (opField w).toNat with
    | 0x00 => if fidField w = 0 then .ok .nop else .error (.strayFormatId (fidField w))
    | 0x01 => .ok (.selfmt (fidField w))
    | 0x02 => if fidField w = 0 then .ok .ldbank else .error (.strayFormatId (fidField w))
    | 0x03 => if fidField w = 0 then .ok .ldpal else .error (.strayFormatId (fidField w))
    | 0x04 => if fidField w = 0 then .ok .resolve else .error (.strayFormatId (fidField w))
    | 0x05 => if fidField w = 0 then .ok .decode else .error (.strayFormatId (fidField w))
    | 0x06 => if fidField w = 0 then .ok .deint else .error (.strayFormatId (fidField w))
    | 0x07 => if fidField w = 0 then .ok .unpack else .error (.strayFormatId (fidField w))
    | _ => .error (.reservedOpcode (opField w))

/-- The opcode of a command (R103). -/
def Instr.opcode : Instr → Byte
  | .nop => 0x00
  | .selfmt _ => 0x01
  | .ldbank => 0x02
  | .ldpal => 0x03
  | .resolve => 0x04
  | .decode => 0x05
  | .deint => 0x06
  | .unpack => 0x07

/-- The FID field of a command: 0 but for SELFMT (R102, R105). -/
def Instr.fid : Instr → FormatId
  | .selfmt f => f
  | .nop | .ldbank | .ldpal | .resolve | .decode | .deint | .unpack => 0

/-- The encoder (R100, R117): RSV = 0, then FID, then OP. -/
def encode (i : Instr) : Word := (0 : BitVec 20) ++ i.fid ++ i.opcode

/-- The command read from an instruction whose bits are w, numbered as opcode_table.json numbers them: the command word
itself, since a command is one 32-bit word and bit i of CMD is bit i of the bus data (R71, R100). -/
def decodeTableWord (nbits w : Nat) : Option Instr :=
  match decode (BitVec.ofNat 32 (w % 2 ^ nbits)) with
  | .ok i => some i
  | .error _ => none

end Sys2Proof
end

