-- ==== Sys2Proof/Config.lean ====
section
/-! DEFINITION. What an SPX-CORE implementation fixes (00_scope.md R10) and the free values: opaque constants
with no body, so that whatever is proved holds for every value of them. -/

namespace Sys2Proof

/-- The two words of a format descriptor (30_encoding.md R110, R111). -/
structure Descriptor where
  geom : Word
  ctrl : Word
  deriving DecidableEq, Repr, Inhabited

/-- The implementation parameters of 00_scope.md R10 that are plain numbers and words. The state carries them
unchanged, so that a statement about every state is a statement about every configuration (10_state.md R51).
DESIGN CHOICE (log 1). BUILTIN_ROM is `Config.builtinRom`; the BANKIDX parameters are arguments of the default
FORMAT_ROM (Machine/Descriptors.lean). -/
structure Params where
  /-- IBUF_SIZE, input buffer bytes. -/
  ibufSize : Nat
  /-- OBUF_SIZE, output buffer bytes. -/
  obufSize : Nat
  /-- BANK_MAX, palette slots in the bank RAM. -/
  bankMax : Nat
  /-- FORMAT_ROM, the descriptors of format IDs 0 to 14 (10_state.md R44). -/
  formatRom : Vector Descriptor 15
  deriving DecidableEq, Repr

namespace Config

/-- BUILTIN_ROM (00_scope.md R10, 10_state.md R43): byte a of built-in palette k is `builtinRom (64 * k + a)`.
OPEN in the spec, so it has no body (log 2). -/
opaque builtinRom : Nat → Byte

/-- What a byte of IBUF or OBUF that nothing has written since reset reads as at a bus address
(93_implementation_defined.md U1, U2: any value). The first argument is the state's `freeIndex` (log 6). -/
opaque freeByte : Nat → Nat → Byte

/-- What a host read of entry i of a PBANK slot at or above BANK_LEN returns (93_implementation_defined.md U3:
any value): `freeBankWord freeIndex slot i` (log 6, log 7). -/
opaque freeBankWord : Nat → Nat → Nat → Word

/-- The channels of entry i of a PBANK slot below BANK_LEN that was never written, a state no run reaches:
`freeBankChannel freeIndex slot i c` for channel c = 0, 1, 2 (log 12). -/
opaque freeBankChannel : Nat → Nat → Nat → Nat → Byte

end Config
end Sys2Proof
end

