-- ==== Sys2Proof/Machine/Colours.lean ====
section
/-! DEFINITION. Colours and palettes: the colour build, the block parse, the grey ramp and the lookup port
(40_palette_table.md R130 to R145, 41_palette_resolver.md R161, 00_scope.md R14). -/

namespace Sys2Proof.Machine

/-- A colour: any triple of 8-bit channels (00_scope.md R16, 90_conflicts.md C2). -/
structure Color where
  r : Byte
  g : Byte
  b : Byte
  deriving DecidableEq, Repr, Inhabited

/-- A palette: exactly 16 colours in order (R16, 10_state.md R40). -/
abbrev Palette := Vector Color 16

/-- `rgb(c)`: R in bits 23:16, G in 15:8, B in 7:0, bits 31:24 zero (00_scope.md R14). -/
def rgb (c : Color) : Word := (0 : Byte) ++ c.r ++ c.g ++ c.b

/-- `nib8(b)`: the low nibble of the source byte in the channel's high nibble (R130). -/
def nib8 (b : Byte) : Byte := (b.extractLsb' 0 4).setWidth 8 <<< 4

/-- `buildColor(r, g, b)` (R131). -/
def buildColor (r g b : Byte) : Color := ⟨nib8 r, nib8 g, nib8 b⟩

/-- `parseBlock(M, base)`: entry i from the bytes at base + 4i, 4i + 1, 4i + 2; the fourth byte is not read (R133). -/
def parseBlock (M : Nat → Byte) (base : Nat) : Palette :=
  Vector.ofFn fun i => buildColor (M (base + 4 * i)) (M (base + 4 * i + 1)) (M (base + 4 * i + 2))

/-- The offsets `parseBlock(M, base)` reads: exactly 48 bytes (R133). -/
def blockOffsets (base : Nat) : List Nat :=
  (List.range 16).flatMap fun i => [base + 4 * i, base + 4 * i + 1, base + 4 * i + 2]

/-- The grey ramp, `GRAY[i] = (17i, 17i, 17i)` for i = 0 to 15 (41_palette_resolver.md R161). -/
def gray : Palette :=
  Vector.ofFn fun i => ⟨BitVec.ofNat 8 (17 * i), BitVec.ofNat 8 (17 * i), BitVec.ofNat 8 (17 * i)⟩

/-- The lookup port `PALX(k)`: entry k, and entry 15 for every k of 16 or more (R145). -/
def palx (p : Palette) (k : Nat) : Word := rgb (p[min k 15]'(by omega))

end Sys2Proof.Machine
end

