-- ==== Sys2Proof/Machine/Descriptors.lean ====
section
/-! DEFINITION. Format descriptors: their fields, legality, palette rule, and the default FORMAT_ROM
(30_encoding.md R110 to R115, 44_dispatch.md R221, 00_scope.md R10). -/

namespace Sys2Proof.Machine

/-- W, bits 15:0 of a GEOM word (R110). -/
def geomW (g : Word) : Nat := (g.extractLsb' 0 16).toNat

/-- H, bits 31:16 of a GEOM word (R110). -/
def geomH (g : Word) : Nat := (g.extractLsb' 16 16).toNat

/-- The decoder kind (R16, R111). -/
inductive Kind where
  | bitplane4
  | font1bit
  deriving DecidableEq, Repr

/-- A palette rule (41_palette_resolver.md R160). -/
inductive PaletteRule where
  | fixedBuiltin (k : Fin 3)
  | bankIndex (i : Byte)
  | noPalette
  deriving DecidableEq, Repr

/-- Bits 30:0 of a CTRL word: what a descriptor's legality and meaning rest on (R111). -/
abbrev CtrlBits := BitVec 31

/-- KIND, bit 0 (R111). -/
def ctrlKind (c : CtrlBits) : Kind := if c.getLsbD 0 then .font1bit else .bitplane4

/-- PRULE, bits 3:2 (R111). -/
def ctrlPrule (c : CtrlBits) : BitVec 2 := c.extractLsb' 2 2

/-- PARG, bits 15:8 (R111). -/
def ctrlParg (c : CtrlBits) : Byte := c.extractLsb' 8 8

/-- `legalDesc`, which does not depend on the GEOM word (R115). -/
def legalDesc (c : CtrlBits) : Bool :=
  c.extractLsb' 16 15 == 0 && c.extractLsb' 4 4 == 0 && !c.getLsbD 1 &&
    ((ctrlKind c == .bitplane4 && ctrlPrule c == 1 && decide ((ctrlParg c).toNat ≤ 2))
      || (ctrlKind c == .bitplane4 && ctrlPrule c == 2)
      || (ctrlKind c == .font1bit && ctrlPrule c == 0 && ctrlParg c == 0))

/-- The palette rule of a CTRL word (R112); none for PRULE = 3 and for a built-in that does not exist, which SELFMT
never latches (R115). -/
def paletteRule (c : CtrlBits) : Option PaletteRule :=
  match (ctrlPrule c).toNat with
  | 0 => some .noPalette
  | 1 => if h : (ctrlParg c).toNat < 3 then some (.fixedBuiltin ⟨(ctrlParg c).toNat, h⟩) else none
  | 2 => some (.bankIndex (ctrlParg c))
  | _ => none

/-- The geometry checks of 44_dispatch.md R225 on a GEOM word. -/
def geometryFits (obufSize : Nat) (g : Word) : Bool :=
  decide (geomW g % 8 = 0) && decide (geomW g * geomH g ≤ obufSize)

/-- A FORMAT_ROM entry that R10 allows: an empty one, or one that passes R115 and the geometry checks of R225. -/
def romEntryLegal (obufSize : Nat) (d : Descriptor) : Bool :=
  !d.ctrl.getLsbD 31 || (legalDesc (d.ctrl.setWidth 31) && geometryFits obufSize d.geom)

/-- The constraints of 00_scope.md R10 on a configuration. -/
def legalParams (p : Params) : Bool :=
  decide (73920 ≤ p.ibufSize) && decide (p.ibufSize ≤ 0x20000)
    && decide (147840 ≤ p.obufSize) && decide (p.obufSize ≤ 0x40000)
    && decide (1 ≤ p.bankMax) && decide (p.bankMax ≤ 16)
    && p.formatRom.toList.all (romEntryLegal p.obufSize)

/-- The CTRL word of a bank-reference entry, `0x80000008 | (index << 8)` (R221). -/
def bankCtrl (index : Byte) : Word := 0x80000008 ||| (index.setWidth 32 <<< 8)

/-- The default FORMAT_ROM of 44_dispatch.md R221; the arguments are BANKIDX_FULL, BANKIDX_PANEL, BANKIDX_SPRITES and
BANKIDX_STRIP. -/
def defaultFormatRom (full panel sprites strip : Byte) : Vector Descriptor 15 :=
  #v[⟨0x00C80140, 0x80000004⟩,
     ⟨0x00C80140, 0x80000104⟩,
     ⟨0x00C80140, 0x80000204⟩,
     ⟨0x00C80140, bankCtrl full⟩,
     ⟨0x00180140, bankCtrl panel⟩,
     ⟨0x01CE0140, bankCtrl sprites⟩,
     ⟨0x00100280, bankCtrl strip⟩,
     ⟨0x00080200, 0x80000001⟩,
     ⟨0x00080200, 0x80000001⟩,
     ⟨0, 0⟩, ⟨0, 0⟩, ⟨0, 0⟩, ⟨0, 0⟩, ⟨0, 0⟩, ⟨0, 0⟩]

/-- The defaults of 00_scope.md R10. -/
def defaultParams : Params :=
  { ibufSize := 131072, obufSize := 262144, bankMax := 16, formatRom := defaultFormatRom 0 0 0 0 }

end Sys2Proof.Machine
end

