-- ==== Sys2Proof/Machine/HostOps.lean ====
section
/-! DEFINITION. What the host may do next, and whose turn it is: the plain data that makes the machine's step a function
(00_scope.md R9, 20_memory.md R70, R85; log 3). -/

namespace Sys2Proof.Machine

/-- The width of a bus access (20_memory.md R70). -/
inductive Width where
  | byte
  | half
  | word
  deriving DecidableEq, Repr

/-- Bytes of an access: 1, 2 or 4 (R70). -/
def Width.bytes : Width → Nat
  | .byte => 1
  | .half => 2
  | .word => 4

/-- One operation of a host program (30_encoding.md R118). -/
inductive HostOp where
  /-- `RD8`, `RD16`, `RD32`: MemRead. -/
  | read (n : Width) (a : Addr)
  /-- `WR8`, `WR16`, `WR32`: MemWrite; only the low 8n bits of v are used (R71). -/
  | write (n : Width) (a : Addr) (v : Word)
  /-- `WAIT`: RD32 of STATUS, again and again until the value read has bit 0 clear. -/
  | wait
  deriving DecidableEq, Repr

/-- Whose event comes next in the one total order of events (20_memory.md R85), the platform's reset among them
(70_reset_and_hazards.md R400). -/
inductive Turn where
  | host
  | engine
  | reset
  deriving DecidableEq, Repr

end Sys2Proof.Machine
end

