-- ==== Sys2Proof/Machine/Memory.lean ====
section
/-! DEFINITION. The byte-addressed memory of SPX-CORE: IBUF, OBUF and BROM at their bus addresses
(20_memory.md R72, R74, R75, R79). The other windows show registers, not bytes (Machine/Bus.lean). -/

namespace Sys2Proof.Machine

/-- First bus address of the BROM window (R79). -/
def bromBase : Nat := 0x000C00
/-- Bytes of the BROM window: 3 blocks of 64 (R79). -/
def bromSize : Nat := 192
/-- First bus address of the IBUF window (R74). -/
def ibufBase : Nat := 0x020000
/-- First bus address of the OBUF window (R75). -/
def obufBase : Nat := 0x040000

/-- The written bytes of IBUF and OBUF, by bus address, in rising order. A byte that is not listed has not been written
since reset: being listed is the model's "written" flag of 10_state.md R45 and R46 (log 5). -/
abbrev Memory := List Host.Cell

/-- What a byte that is not listed reads as: a BROM byte is the parameter's (R43); any other has no value. -/
def Memory.unlisted (a : Nat) : Option Byte :=
  if bromBase ≤ a ∧ a < bromBase + bromSize then some (Config.builtinRom (a - bromBase)) else none

/-- One byte at a bus address. BROM is read only (R43), so its bytes are never listed and always the parameter's. -/
def Memory.read (m : Memory) (a : Nat) : Option Byte :=
  match Memory.unlisted a with
  | some v => some v
  | none => m.lookup a

/-- The bytes bs as cells from address base up. -/
def Memory.cells : Nat → List Byte → Memory
  | _, [] => []
  | base, b :: bs => (base, b) :: Memory.cells (base + 1) bs

/-- Store the bytes bs at base, base + 1, ... all at once (R84). -/
def Memory.store (m : Memory) (base : Nat) (bs : List Byte) : Memory :=
  m.filter (fun c => decide (c.1 < base)) ++ Memory.cells base bs
    ++ m.filter (fun c => decide (base + bs.length ≤ c.1))

/-- The byte at a is a byte of IBUF or of OBUF (R74, R75). -/
def Memory.isRam (p : Params) (a : Nat) : Bool :=
  (decide (ibufBase ≤ a) && decide (a < ibufBase + p.ibufSize))
    || (decide (obufBase ≤ a) && decide (a < obufBase + p.obufSize))

/-- The canonical form: addresses strictly rising, each a byte of IBUF or OBUF. No listed byte equals what its address
reads as unlisted, because an unlisted byte of IBUF or OBUF has no value. -/
abbrev Memory.wf (p : Params) (m : Memory) : Prop :=
  m.Pairwise (fun c d => c.1 < d.1) ∧ ∀ c ∈ m, Memory.isRam p c.1 = true

end Sys2Proof.Machine
end

