-- ==== Sys2Proof/Machine/State.lean ====
section
/-! DEFINITION. The state of SPX-CORE (10_state.md R20), the reasons a step can stop, and the state after reset
(70_reset_and_hazards.md R401). -/

namespace Sys2Proof.Machine

/-- The error codes of 60_exceptions.md R300. Codes 9 to 15 are never produced, so they have no constructor (log 14). -/
inductive ErrCode where
  | ok
  | unknownFormat
  | formatLength
  | formatBankLen
  | noFormat
  | illegalCmd
  | capacity
  | geometry
  | illegalDescriptor
  deriving DecidableEq, Repr

/-- STATUS.PAL_SRC (10_state.md R41). Values 5 to 7 are never produced, so they have no constructor (log 14). -/
inductive PalSrc where
  | noPalette
  | builtin
  | bank
  | gray
  | direct
  deriving DecidableEq, Repr

/-- Why the machine stops (60_exceptions.md R314). -/
inductive Fault where
  /-- Raised by a host access that is unmapped, misaligned or of a width the region does not take (20_memory.md R73).
  Safe: the spec makes it a fault. -/
  | hostBusError (addr n : Nat)
  /-- Raised by a host access that R407 does not allow while BUSY = 1. Safe: the spec makes it a fault. -/
  | hostAccessWhileBusy (addr : Nat)
  /-- Raised by LDBANK, LDPAL and DECODE when they read an IBUF byte not written since reset, with the byte's bus address
  (70_reset_and_hazards.md R402). Safe: the spec makes it a fault. -/
  | uninitInput (addr : Nat)
  /-- Raised by RESOLVE and DECODE when the latched palette rule is one SELFMT never latches (R115). No run reaches it
  (log 11). Safe. -/
  | unlatchableFormat
  deriving DecidableEq, Repr

/-- Why the model has no meaning for a step. -/
inductive Refusal where
  /-- Raised by an arm of exec that has no meaning yet. Safe. -/
  | notModelled (mnemonic : String)
  /-- Raised by a step of a configuration that 00_scope.md R10 does not allow (93_implementation_defined.md P1 to P4:
  refuse). Safe. -/
  | illegalParameters
  deriving DecidableEq, Repr

/-- The architectural state (R20), the parameters, and the model's own fields. -/
structure State where
  /-- CMD, the last accepted word; while busy, the pending command (R22, R47). -/
  cmd : Word
  /-- STATUS.BUSY (R23). -/
  busy : Bool
  /-- STATUS.ERR (R23). -/
  err : Bool
  /-- FMT_VALID, seen as STATUS[2] and FMT_CTRL[31] (R48). -/
  fmtValid : Bool
  /-- STATUS.DONE (R23). -/
  done : Bool
  /-- STATUS.OVR (R23). -/
  ovr : Bool
  /-- STATUS.PAL_SRC (R41). -/
  palSrc : PalSrc
  /-- ERRCODE (R24). -/
  errCode : ErrCode
  /-- CTRL.IE (R25). -/
  ie : Bool
  /-- IN_LEN (R26). -/
  inLen : Word
  /-- OUT_LEN (R27). -/
  outLen : Word
  /-- BANK_LEN (R28). -/
  bankLen : Word
  /-- FMT_ID (R29). -/
  fmtId : FormatId
  /-- FMT_GEOM (R30). -/
  fmtGeom : Word
  /-- FMT_CTRL[30:0] (R31). -/
  fmtCtrl : CtrlBits
  /-- UFMT_GEOM (R32). -/
  ufmtGeom : Word
  /-- UFMT_CTRL (R33). -/
  ufmtCtrl : Word
  /-- DIN (R34). -/
  din : Word
  /-- DOUT_LO (R35). -/
  doutLo : Word
  /-- DOUT_HI (R36). -/
  doutHi : Word
  /-- PAL, the active palette (R40). -/
  pal : Palette
  /-- PBANK (R42); none is a slot nothing has written since reset, as R42 allows. BANK_MAX is at most 16 (log 7). -/
  pbank : Vector (Option Palette) 16
  /-- IBUF and OBUF (R45, R46); BROM is what its addresses read as (R43). -/
  mem : Memory
  /-- IBUF_SIZE, OBUF_SIZE, BANK_MAX and FORMAT_ROM (R37 to R39, R44, R51). -/
  params : Params
  /-- The MODEL's: what the host has still to do (log 3). -/
  program : List HostOp
  /-- The MODEL's: whose turns come next (log 3, log 4). -/
  schedule : List Turn
  /-- The MODEL's: the data the bus returned in the last step, if it was a host read (log 15). -/
  busData : Option Word
  /-- The MODEL's: the counter the free values are applied to (log 6). -/
  freeIndex : Nat
  deriving DecidableEq, Repr

/-- The machine right after reset (R401) in the configuration p, the host with nothing to do. -/
def State.initial (p : Params) : State where
  cmd := 0
  busy := false
  err := false
  fmtValid := false
  done := false
  ovr := false
  palSrc := .gray
  errCode := .ok
  ie := false
  inLen := 0
  outLen := 0
  bankLen := 0
  fmtId := 0
  fmtGeom := 0
  fmtCtrl := 0
  ufmtGeom := 0
  ufmtCtrl := 0
  din := 0
  doutLo := 0
  doutHi := 0
  pal := gray
  pbank := Vector.replicate 16 none
  mem := []
  params := p
  program := []
  schedule := []
  busData := none
  freeIndex := 0

/-- The machine right after reset (R401) with the default parameters of 00_scope.md R10. -/
def State.reset : State := State.initial defaultParams

end Sys2Proof.Machine
end

