-- ==== Sys2Proof/Machine/Flags.lean ====
section
/-! DEFINITION. The status fields as the host sees them: error and palette-source codes, the STATUS, ERRCODE, CTRL and
FMT_CTRL words, and the interrupt line. -/

namespace Sys2Proof.Machine

/-- The number of an error code (60_exceptions.md R300). -/
def ErrCode.code : ErrCode → BitVec 4
  | .ok => 0
  | .unknownFormat => 1
  | .formatLength => 2
  | .formatBankLen => 3
  | .noFormat => 4
  | .illegalCmd => 5
  | .capacity => 6
  | .geometry => 7
  | .illegalDescriptor => 8

/-- The number of a palette source (10_state.md R41). -/
def PalSrc.code : PalSrc → BitVec 3
  | .noPalette => 0
  | .builtin => 1
  | .bank => 2
  | .gray => 3
  | .direct => 4

/-- The STATUS word: BUSY, ERR, FMT_VALID, DONE, OVR, PAL_SRC from bit 0 up, bits 31:8 zero (10_state.md R23). -/
def State.statusWord (s : State) : Word :=
  (0 : BitVec 24) ++ s.palSrc.code ++ BitVec.ofBool s.ovr ++ BitVec.ofBool s.done ++ BitVec.ofBool s.fmtValid
    ++ BitVec.ofBool s.err ++ BitVec.ofBool s.busy

/-- The ERRCODE word: the code in bits 3:0 (10_state.md R24). -/
def State.errcodeWord (s : State) : Word := s.errCode.code.setWidth 32

/-- The CTRL word: IE in bit 0 (10_state.md R25). -/
def State.ctrlWord (s : State) : Word := (BitVec.ofBool s.ie).setWidth 32

/-- The FMT_CTRL word: FMT_VALID in bit 31 over the latched bits (10_state.md R31). -/
def State.fmtCtrlWord (s : State) : Word := BitVec.ofBool s.fmtValid ++ s.fmtCtrl

/-- The output line `irq` (10_state.md R49). -/
def State.irq (s : State) : Bool := s.done && s.ie

end Sys2Proof.Machine
end

