-- ==== Sys2Proof/Machine/Ops.lean ====
section
/-! DEFINITION. The operations all commands share: the two completions, which take the place of taking and leaving an
exception (60_exceptions.md R302, R303, R312, R313), reading IBUF and PBANK, writing OBUF, packing lanes, and the
platform's reset. -/

namespace Sys2Proof.Machine

/-- Successful completion, `complete` (60_exceptions.md R302). -/
def State.complete (s : State) : State :=
  { s with errCode := .ok, err := false, done := true, busy := false }

/-- Failed completion, `raise E`: the writes made before it stand (60_exceptions.md R303). No state is saved and no control
is transferred (R312). -/
def State.raise (s : State) (e : ErrCode) : State :=
  { s with errCode := e, err := true, done := true, busy := false }

/-- A byte of IBUF, OBUF or BROM at its bus address; a free value where nothing has written it (93_implementation_defined.md
U1, U2; log 6). -/
def State.byteAt (s : State) (a : Nat) : Byte := (s.mem.read a).getD (Config.freeByte s.freeIndex a)

/-- `IBUF[a]` (10_state.md R45). -/
def State.ibuf (s : State) (a : Nat) : Byte := s.byteAt (ibufBase + a)

/-- `BROM[k][a]` (10_state.md R43). -/
def State.brom (s : State) (k : Fin 3) (a : Nat) : Byte := s.byteAt (bromBase + 64 * k + a)

/-- The first of the IBUF offsets that has not been written since reset (70_reset_and_hazards.md R402; log 8). -/
def State.firstUnwritten (s : State) (offsets : List Nat) : Option Nat :=
  offsets.find? fun a => (s.mem.read (ibufBase + a)).isNone

/-- The Engine reads the IBUF bytes at the offsets, then goes on; a byte not written since reset is the fault UninitInput
with the byte's bus address (R402). -/
def State.withInput (s : State) (offsets : List Nat) (next : Host.Outcome State Fault Refusal) :
    Host.Outcome State Fault Refusal :=
  match s.firstUnwritten offsets with
  | some a => .fault (.uninitInput (ibufBase + a))
  | none => next

/-- `PBANK[j]` (10_state.md R42); the colours of a slot nothing has written are free (log 12). -/
def State.bankSlot (s : State) (j : Nat) : Palette :=
  match (s.pbank[j]?).join with
  | some p => p
  | none => Vector.ofFn fun i =>
      ⟨Config.freeBankChannel s.freeIndex j i 0, Config.freeBankChannel s.freeIndex j i 1,
        Config.freeBankChannel s.freeIndex j i 2⟩

/-- `OBUF[a] <- out[a]` for every a below the length of out (44_dispatch.md R230). -/
def State.writeObuf (s : State) (out : List Byte) : State := { s with mem := s.mem.store obufBase out }

/-- Words side by side, the first in the least significant w bits, each w bits above the one before it. -/
def packLanes (w : Nat) : List Word → Word
  | [] => 0
  | l :: ls => l ||| (packLanes w ls <<< w)

/-- A new index for the free values (log 6). -/
def State.tick (s : State) : State := { s with freeIndex := s.freeIndex + 1 }

/-- The platform's reset: every piece of the block's state takes its value of 70_reset_and_hazards.md R401 in one step,
and a pending command is abandoned (R400, R403). The parameters stay; so do the host's program and the turns, which are
not the block's (log 13). -/
def State.platformReset (s : State) : State :=
  { State.initial s.params with program := s.program, schedule := s.schedule, freeIndex := s.freeIndex + 1 }

end Sys2Proof.Machine
end

