-- ==== Sys2Proof/Machine/Operands.lean ====
section
/-! DEFINITION. The operands of the commands: the byte lanes of DIN, IN_LEN, the descriptor of a format ID, and the latched
format (30_encoding.md R102, R103). -/

namespace Sys2Proof.Machine

/-- `DIN[8p+7:8p]`: for DEINT the byte of plane p (42_bitplane.md R188); lane 0 is UNPACK's glyph byte (43_glyph.md R205). -/
def State.dinByte (s : State) (p : Nat) : Byte := s.din.extractLsb' (8 * p) 8

/-- IN_LEN as a number (10_state.md R26). -/
abbrev State.inputLength (s : State) : Nat := s.inLen.toNat

/-- BANK_LEN as a number (10_state.md R28). -/
abbrev State.bankLength (s : State) : Nat := s.bankLen.toNat

/-- `descOf(f)`: the ROM entry of format IDs 0 to 14, the user registers for 15 (44_dispatch.md R224). -/
def State.descOf (s : State) (f : FormatId) : Descriptor :=
  if h : f.toNat < 15 then s.params.formatRom[f.toNat] else ⟨s.ufmtGeom, s.ufmtCtrl⟩

/-- W of the selected format (44_dispatch.md R230). -/
abbrev State.fmtW (s : State) : Nat := geomW s.fmtGeom

/-- H of the selected format (44_dispatch.md R230). -/
abbrev State.fmtH (s : State) : Nat := geomH s.fmtGeom

/-- The kind of the selected format (44_dispatch.md R232). -/
def State.fmtKind (s : State) : Kind := ctrlKind s.fmtCtrl

/-- The palette rule of the selected format (41_palette_resolver.md R165). -/
def State.fmtRule (s : State) : Option PaletteRule := paletteRule s.fmtCtrl

end Sys2Proof.Machine
end

