-- ==== Sys2Proof/Machine/Bitplane.lean ====
section
/-! DEFINITION. The bitplane deinterleaver and the command DEINT (42_bitplane.md). -/

namespace Sys2Proof.Machine

/-- `bitAt(b, x)`: bit 7 is the leftmost pixel of its byte; shared with the glyph unpacker (R181). -/
def bitAt (b : Byte) (x : Nat) : Byte := (b >>> (7 - x % 8)) &&& 1

/-- `planeAddr(p, x, y)` for an image of width W (R182). -/
def planeAddr (W p x y : Nat) : Nat := y * (4 * (W / 8)) + p * (W / 8) + x / 8

/-- `deintPix(b0, b1, b2, b3, x)`, a palette index in the low four bits of a byte (R183, R186). -/
def deintPix (b0 b1 b2 b3 : Byte) (x : Nat) : Byte :=
  bitAt b0 x ||| (bitAt b1 x <<< 1) ||| (bitAt b2 x <<< 2) ||| (bitAt b3 x <<< 3)

/-- `needBP(W, H)` (R184). -/
def needBP (W H : Nat) : Nat := W * H / 2

/-- Pixel (x, y) of `bpDecode(M, W, H)` (R186). -/
def bpPixel (M : Nat → Byte) (W x y : Nat) : Byte :=
  deintPix (M (planeAddr W 0 x y)) (M (planeAddr W 1 x y)) (M (planeAddr W 2 x y)) (M (planeAddr W 3 x y)) x

/-- `bpDecode(M, W, H)`: W * H bytes, pixel (x, y) at y * W + x (R186, 00_scope.md R15). -/
def bpDecode (M : Nat → Byte) (W H : Nat) : List Byte :=
  (List.range (W * H)).map fun a => bpPixel M W (a % W) (a / W)

/-- DOUT_LO of DEINT: nibble j is the pixel in column j (R188). -/
def deintWord (b0 b1 b2 b3 : Byte) : Word :=
  packLanes 4 ((List.range 8).map fun j => (deintPix b0 b1 b2 b3 j).setWidth 32)

/-- DEINT (R188). -/
def execDeint (s : State) : Host.Outcome State Fault Refusal :=
  .next (State.complete
    { s with doutLo := deintWord (s.dinByte 0) (s.dinByte 1) (s.dinByte 2) (s.dinByte 3), doutHi := 0 })

end Sys2Proof.Machine
end

