-- ==== Sys2Proof/Machine/Glyph.lean ====
section
/-! DEFINITION. The font glyph unpacker and the command UNPACK (43_glyph.md). -/

namespace Sys2Proof.Machine

/-- `glyphAddr(x, y)` for an image of width W (R201). -/
def glyphAddr (W x y : Nat) : Nat := y * (W / 8) + x / 8

/-- `glyphPix(b, x)`: 255 if the bit is set, else 0 (R202). -/
def glyphPix (b : Byte) (x : Nat) : Byte := if bitAt b x = 1 then 255 else 0

/-- `needGL(W, H)` (R203). -/
def needGL (W H : Nat) : Nat := W * H / 8

/-- `glDecode(M, W, H)`: W * H bytes, pixel (x, y) at y * W + x (R204, 00_scope.md R15). -/
def glDecode (M : Nat → Byte) (W H : Nat) : List Byte :=
  (List.range (W * H)).map fun a => glyphPix (M (glyphAddr W (a % W) (a / W))) (a % W)

/-- The four pixels of glyph byte b from column j up, one byte each, as a word (R205). -/
def glyphWord (b : Byte) (j : Nat) : Word :=
  packLanes 8 ((List.range 4).map fun i => (glyphPix b (j + i)).setWidth 32)

/-- UNPACK (R205). -/
def execUnpack (s : State) : Host.Outcome State Fault Refusal :=
  .next (State.complete { s with doutLo := glyphWord (s.dinByte 0) 0, doutHi := glyphWord (s.dinByte 0) 4 })

end Sys2Proof.Machine
end

