-- ==== Sys2Proof/Machine/Palettes.lean ====
section
/-! DEFINITION. The palette table commands LDBANK and LDPAL (40_palette_table.md R140, R142). -/

namespace Sys2Proof.Machine

/-- PBANK with slots 0 to m - 1 holding the m 64-byte blocks at the start of IBUF, the others as they were (R140). -/
def State.loadedBank (s : State) (m : Nat) : Vector (Option Palette) 16 :=
  Vector.ofFn fun j => if j.val < m then some (parseBlock s.ibuf (64 * j)) else s.pbank[j]

/-- The IBUF offsets LDBANK reads for m blocks (R133, R140). -/
def bankOffsets (m : Nat) : List Nat := (List.range m).flatMap fun j => blockOffsets (64 * j)

/-- A failed LDBANK leaves no bank: `BANK_LEN <- 0; raise E` (R140). -/
def State.raiseNoBank (s : State) (e : ErrCode) : State := State.raise { s with bankLen := 0 } e

/-- LDBANK (R140). -/
def execLdbank (s : State) : Host.Outcome State Fault Refusal :=
  let n := s.inputLength
  if n > s.params.ibufSize then .next (s.raiseNoBank .capacity)
  else if n % 64 ≠ 0 then .next (s.raiseNoBank .formatBankLen)
  else if n / 64 > s.params.bankMax then .next (s.raiseNoBank .capacity)
  else s.withInput (bankOffsets (n / 64))
    (.next (State.complete { s with pbank := s.loadedBank (n / 64), bankLen := BitVec.ofNat 32 (n / 64) }))

/-- LDPAL (R142). -/
def execLdpal (s : State) : Host.Outcome State Fault Refusal :=
  let n := s.inputLength
  if n > s.params.ibufSize then .next (s.raise .capacity)
  else if n ≠ 64 then .next (s.raise .formatLength)
  else s.withInput (blockOffsets 0)
    (.next (State.complete { s with pal := parseBlock s.ibuf 0, palSrc := .direct }))

end Sys2Proof.Machine
end

