-- ==== Sys2Proof/Machine/Resolver.lean ====
section
/-! DEFINITION. The palette resolver and the command RESOLVE (41_palette_resolver.md R162, R165). -/

namespace Sys2Proof.Machine

/-- `resolvePal(rule)`: a palette and its source, or none for `Keep` (R162). -/
def State.resolvePal (s : State) : PaletteRule → Option (Palette × PalSrc)
  | .fixedBuiltin k => some (parseBlock (s.brom k) 0, .builtin)
  | .bankIndex i => if i.toNat < s.bankLength then some (s.bankSlot i.toNat, .bank) else some (gray, .gray)
  | .noPalette => none

/-- The case on `resolvePal(rule)` of RESOLVE and DECODE: PAL and PAL_SRC, or PAL_SRC alone for `Keep` (R164, R165). -/
def State.attachPalette (s : State) (rule : PaletteRule) : State :=
  match s.resolvePal rule with
  | some (p, src) => { s with pal := p, palSrc := src }
  | none => { s with palSrc := .noPalette }

/-- Attach the selected format's palette, then complete. A rule SELFMT never latches stops (log 11). -/
def State.attachAndComplete (s : State) : Host.Outcome State Fault Refusal :=
  match s.fmtRule with
  | some rule => .next (s.attachPalette rule).complete
  | none => .fault .unlatchableFormat

/-- RESOLVE (R165). -/
def execResolve (s : State) : Host.Outcome State Fault Refusal :=
  if s.fmtValid = false then .next (s.raise .noFormat) else s.attachAndComplete

end Sys2Proof.Machine
end

