-- ==== Sys2Proof/Machine/Dispatcher.lean ====
section
/-! DEFINITION. The format-ID dispatcher: the commands NOP, SELFMT and DECODE (44_dispatch.md). -/

namespace Sys2Proof.Machine

/-- NOP: completion status only (R240). -/
def execNop (s : State) : Host.Outcome State Fault Refusal := .next s.complete

/-- A failed SELFMT selects no format: `FMT_VALID <- 0; raise E`; the latched fields stay (R225). -/
def State.raiseNoFormat (s : State) (e : ErrCode) : State := State.raise { s with fmtValid := false } e

/-- SELFMT (R225). -/
def execSelfmt (fid : FormatId) (s : State) : Host.Outcome State Fault Refusal :=
  let d := s.descOf fid
  let c : CtrlBits := d.ctrl.setWidth 31
  if fid ≠ 15 ∧ d.ctrl.getLsbD 31 = false then .next (s.raiseNoFormat .unknownFormat)
  else if legalDesc c = false then .next (s.raiseNoFormat .illegalDescriptor)
  else if geomW d.geom % 8 ≠ 0 then .next (s.raiseNoFormat .geometry)
  else if geomW d.geom * geomH d.geom > s.params.obufSize then .next (s.raiseNoFormat .capacity)
  else .next (State.complete { s with fmtId := fid, fmtGeom := d.geom, fmtCtrl := c, fmtValid := true })

/-- `need`, by the selected format's kind (R231). -/
def State.need (s : State) : Nat :=
  match s.fmtKind with
  | .bitplane4 => needBP s.fmtW s.fmtH
  | .font1bit => needGL s.fmtW s.fmtH

/-- The pixels DECODE writes, by the selected format's kind (R230, R232). -/
def State.decodedPixels (s : State) : List Byte :=
  match s.fmtKind with
  | .bitplane4 => bpDecode s.ibuf s.fmtW s.fmtH
  | .font1bit => glDecode s.ibuf s.fmtW s.fmtH

/-- A failed DECODE leaves no output: `OUT_LEN <- 0; raise E` (R230). -/
def State.raiseNoOutput (s : State) (e : ErrCode) : State := State.raise { s with outLen := 0 } e

/-- The writes of a successful decode before the palette: the pixels and OUT_LEN (R230). -/
def State.writePixels (s : State) : State :=
  { s.writeObuf s.decodedPixels with outLen := BitVec.ofNat 32 (s.fmtW * s.fmtH) }

/-- DECODE (R230). It reads the first `need` bytes of IBUF, all of them (R185, R203; log 8). -/
def execDecode (s : State) : Host.Outcome State Fault Refusal :=
  if s.fmtValid = false then .next (s.raiseNoOutput .noFormat)
  else if s.inputLength > s.params.ibufSize then .next (s.raiseNoOutput .capacity)
  else if s.inputLength < s.need then .next (s.raiseNoOutput .formatLength)
  else s.withInput (List.range s.need)
    (match s.fmtKind with
      | .bitplane4 => s.writePixels.attachAndComplete
      | .font1bit => .next (State.complete { s.writePixels with palSrc := .noPalette }))

end Sys2Proof.Machine
end

