-- ==== Sys2Proof/Machine/Dispatch.lean ====
section
/-! DEFINITION. The meaning of every command: one arm per row of opcode_table.json. -/

namespace Sys2Proof.Machine

-- What the Engine does with a legal command (30_encoding.md R103).
def exec (i : Instr) (s : State) : Host.Outcome State Fault Refusal :=
  match i with
  | .nop => Sys2Proof.Machine.execNop s
  | .selfmt fid => Sys2Proof.Machine.execSelfmt fid s
  | .ldbank => Sys2Proof.Machine.execLdbank s
  | .ldpal => Sys2Proof.Machine.execLdpal s
  | .resolve => Sys2Proof.Machine.execResolve s
  | .decode => Sys2Proof.Machine.execDecode s
  | .deint => Sys2Proof.Machine.execDeint s
  | .unpack => Sys2Proof.Machine.execUnpack s

end Sys2Proof.Machine
end

