-- ==== Sys2Proof/Machine/Registers.lean ====
section
/-! DEFINITION. The register window: the map of 10_state.md R20 and what a host read or write of each register does
(10_state.md R21 to R39, R53). -/

namespace Sys2Proof.Machine

/-- The registers, in the order of their offsets (R20). -/
inductive Reg where
  | id
  | cmd
  | status
  | errcode
  | ctrl
  | inLen
  | outLen
  | bankLen
  | fmtId
  | fmtGeom
  | fmtCtrl
  | ufmtGeom
  | ufmtCtrl
  | din
  | doutLo
  | doutHi
  | cfgIbuf
  | cfgObuf
  | cfgBank
  deriving DecidableEq, Repr

/-- The bus address of a register (R20). -/
def regAddr : Reg → Addr
  | .id => 0x000
  | .cmd => 0x004
  | .status => 0x008
  | .errcode => 0x00C
  | .ctrl => 0x010
  | .inLen => 0x014
  | .outLen => 0x018
  | .bankLen => 0x01C
  | .fmtId => 0x020
  | .fmtGeom => 0x024
  | .fmtCtrl => 0x028
  | .ufmtGeom => 0x02C
  | .ufmtCtrl => 0x030
  | .din => 0x034
  | .doutLo => 0x038
  | .doutHi => 0x03C
  | .cfgIbuf => 0x040
  | .cfgObuf => 0x044
  | .cfgBank => 0x048

/-- The registers in address order: the register at offset 4k is entry k (R20). -/
def allRegs : List Reg :=
  [.id, .cmd, .status, .errcode, .ctrl, .inLen, .outLen, .bankLen, .fmtId, .fmtGeom, .fmtCtrl, .ufmtGeom, .ufmtCtrl,
    .din, .doutLo, .doutHi, .cfgIbuf, .cfgObuf, .cfgBank]

/-- The value a host read of a register returns (R21 to R39); reserved bits read 0 (R53). -/
def State.readReg (s : State) : Reg → Word
  | .id => 0x53505801
  | .cmd => s.cmd
  | .status => s.statusWord
  | .errcode => s.errcodeWord
  | .ctrl => s.ctrlWord
  | .inLen => s.inLen
  | .outLen => s.outLen
  | .bankLen => s.bankLen
  | .fmtId => s.fmtId.setWidth 32
  | .fmtGeom => s.fmtGeom
  | .fmtCtrl => s.fmtCtrlWord
  | .ufmtGeom => s.ufmtGeom
  | .ufmtCtrl => s.ufmtCtrl
  | .din => s.din
  | .doutLo => s.doutLo
  | .doutHi => s.doutHi
  | .cfgIbuf => BitVec.ofNat 32 s.params.ibufSize
  | .cfgObuf => BitVec.ofNat 32 s.params.obufSize
  | .cfgBank => BitVec.ofNat 32 s.params.bankMax

/-- A write to CMD: accepted while BUSY = 0, dropped with OVR set while BUSY = 1
(10_state.md R22, 70_reset_and_hazards.md R404, 60_exceptions.md R307). -/
def State.writeCmd (s : State) (w : Word) : State :=
  if s.busy then { s with ovr := true } else { s with cmd := w, busy := true }

/-- A write to STATUS: bit 3 clears DONE, bit 4 clears OVR, every other bit is ignored (10_state.md R23). -/
def State.writeStatus (s : State) (w : Word) : State :=
  { s with done := s.done && !w.getLsbD 3, ovr := s.ovr && !w.getLsbD 4 }

/-- What a host write of a register does (R21 to R39); a read-only register ignores it (R53). -/
def State.writeReg (s : State) (r : Reg) (w : Word) : State :=
  match r with
  | .cmd => s.writeCmd w
  | .status => s.writeStatus w
  | .ctrl => { s with ie := w.getLsbD 0 }
  | .inLen => { s with inLen := w }
  | .ufmtGeom => { s with ufmtGeom := w }
  | .ufmtCtrl => { s with ufmtCtrl := w }
  | .din => { s with din := w }
  | .id | .errcode | .outLen | .bankLen | .fmtId | .fmtGeom | .fmtCtrl | .doutLo | .doutHi | .cfgIbuf | .cfgObuf
  | .cfgBank => s

/-- The registers the host may read while BUSY = 1 (70_reset_and_hazards.md R407). -/
def Reg.readableWhileBusy : Reg → Bool
  | .id | .cmd | .status | .errcode | .ctrl | .cfgIbuf | .cfgObuf | .cfgBank => true
  | .inLen | .outLen | .bankLen | .fmtId | .fmtGeom | .fmtCtrl | .ufmtGeom | .ufmtCtrl | .din | .doutLo | .doutHi => false

/-- The registers the host may write while BUSY = 1 (R407). -/
def Reg.writableWhileBusy : Reg → Bool
  | .cmd | .status | .ctrl => true
  | .id | .errcode | .inLen | .outLen | .bankLen | .fmtId | .fmtGeom | .fmtCtrl | .ufmtGeom | .ufmtCtrl | .din | .doutLo
  | .doutHi | .cfgIbuf | .cfgObuf | .cfgBank => false

end Sys2Proof.Machine
end

