-- ==== Sys2Proof/Machine/Bus.lean ====
section
/-! DEFINITION. The host bus: the address map, bus errors, the duties while BUSY = 1, and what a read or a write of each
region does (20_memory.md R70 to R83, 70_reset_and_hazards.md R407). -/

namespace Sys2Proof.Machine

/-- What lies at a bus byte address (R72). -/
inductive Region where
  | reg (r : Reg)
  /-- Word k of the PALX window (R77). -/
  | palx (k : Nat)
  /-- Slot and entry of the PBANK window (R78). -/
  | pbank (slot entry : Nat)
  | brom
  /-- The GEOM word, or with ctrl the CTRL word, of format ID f in the FROM window (R80). -/
  | formatRom (f : Nat) (ctrl : Bool)
  | ibuf
  | obuf
  | unmapped
  deriving DecidableEq, Repr

/-- The address map (R72). -/
def regionOf (p : Params) (a : Nat) : Region :=
  if a < 0x00004C then
    match allRegs[a / 4]? with
    | some r => .reg r
    | none => .unmapped
  else if 0x000400 ≤ a ∧ a < 0x000800 then .palx ((a - 0x000400) / 4)
  else if 0x000800 ≤ a ∧ a < 0x000800 + p.bankMax * 64 then .pbank ((a - 0x000800) / 64) ((a - 0x000800) % 64 / 4)
  else if bromBase ≤ a ∧ a < bromBase + bromSize then .brom
  else if 0x000D00 ≤ a ∧ a < 0x000D80 then .formatRom ((a - 0x000D00) / 8) (decide ((a - 0x000D00) % 8 / 4 = 1))
  else if ibufBase ≤ a ∧ a < ibufBase + p.ibufSize then .ibuf
  else if obufBase ≤ a ∧ a < obufBase + p.obufSize then .obuf
  else .unmapped

/-- The widths a region takes (R72, R76 to R80): 4 bytes only, but for the byte windows. -/
def Region.allows : Region → Width → Bool
  | .brom, _ | .ibuf, _ | .obuf, _ => true
  | .unmapped, _ => false
  | .reg _, n | .palx _, n | .pbank _ _, n | .formatRom _ _, n => n == .word

/-- The access of width n at a is no bus error: every byte mapped, aligned, the width allowed (R73, R81). -/
def busOk (p : Params) (n : Width) (a : Nat) : Bool :=
  (List.range n.bytes).all (fun k => regionOf p (a + k) != .unmapped)
    && decide (a % n.bytes = 0) && (regionOf p a).allows n

/-- What the host may read while BUSY = 1 (70_reset_and_hazards.md R407). -/
def Region.readableWhileBusy : Region → Bool
  | .reg r => r.readableWhileBusy
  | .brom | .formatRom _ _ => true
  | .palx _ | .pbank _ _ | .ibuf | .obuf | .unmapped => false

/-- What the host may write while BUSY = 1 (R407; log 10). -/
def Region.writableWhileBusy : Region → Bool
  | .reg r => r.writableWhileBusy
  | .palx _ | .pbank _ _ | .brom | .formatRom _ _ | .ibuf | .obuf | .unmapped => false

/-- Bytes as one little-endian number (R71). -/
def littleEndian (bs : List Byte) : Word := packLanes 8 (bs.map (·.setWidth 32))

/-- The low n bytes of v, least significant first (R71). -/
def bytesOf (n : Nat) (v : Word) : List Byte := (List.range n).map fun k => v.extractLsb' (8 * k) 8

/-- Entry i of PBANK slot j as the window shows it: `rgb(PBANK[j][i])` below BANK_LEN, any value above (R78; log 7). -/
def State.bankWord (s : State) (j i : Nat) : Word :=
  if j < s.bankLength then rgb ((s.bankSlot j)[i % 16]'(Nat.mod_lt _ (by decide)))
  else Config.freeBankWord s.freeIndex j i

/-- A word of the FROM window; the two words of format ID 15 read 0 (R80). -/
def State.formatRomWord (s : State) (f : Nat) (ctrl : Bool) : Word :=
  if h : f < 15 then (if ctrl then s.params.formatRom[f].ctrl else s.params.formatRom[f].geom) else 0

/-- The data of a read of n bytes at a, for a region that takes it (R71, R76 to R80). -/
def State.busRead (s : State) (n : Width) (a : Nat) : Region → Word
  | .reg r => s.readReg r
  | .palx k => palx s.pal k
  | .pbank j i => s.bankWord j i
  | .formatRom f c => s.formatRomWord f c
  | .brom | .ibuf | .obuf | .unmapped => littleEndian ((List.range n.bytes).map fun k => s.byteAt (a + k))

/-- What a write of the low n bytes of v at a does, for a region that takes it: the read-only windows ignore it
(R71, R74 to R80, 10_state.md R53). -/
def State.busWrite (s : State) (n : Width) (a : Nat) (v : Word) : Region → State
  | .reg r => s.writeReg r v
  | .ibuf | .obuf => { s with mem := s.mem.store a (bytesOf n.bytes v) }
  | .palx _ | .pbank _ _ | .brom | .formatRom _ _ | .unmapped => s

/-- `MemRead(a, n)` (R70, R71): a bus error comes before the check of the host's duties (log 9). -/
def hostRead (n : Width) (a : Addr) (s : State) : Host.Outcome State Fault Refusal :=
  let r := regionOf s.params a.toNat
  if busOk s.params n a.toNat = false then .fault (.hostBusError a.toNat n.bytes)
  else if s.busy = true ∧ r.readableWhileBusy = false then .fault (.hostAccessWhileBusy a.toNat)
  else .next { s with busData := some (s.busRead n a.toNat r) }

/-- `MemWrite(a, n, v)` (R70, R71). -/
def hostWrite (n : Width) (a : Addr) (v : Word) (s : State) : Host.Outcome State Fault Refusal :=
  let r := regionOf s.params a.toNat
  if busOk s.params n a.toNat = false then .fault (.hostBusError a.toNat n.bytes)
  else if s.busy = true ∧ r.writableWhileBusy = false then .fault (.hostAccessWhileBusy a.toNat)
  else .next (s.busWrite n a.toNat v r).tick

end Sys2Proof.Machine
end

