-- ==== Sys2Proof/Machine/HostProgram.lean ====
section
/-! DEFINITION. The host's program: one operation of it, and what the lines and pseudo-instructions of
30_encoding.md R117 to R119 stand for. -/

namespace Sys2Proof.Machine

/-- The host's next operation (R118). A WAIT that reads BUSY = 1 stays. A host with nothing to do does nothing. -/
def hostStep (s : State) : Host.Outcome State Fault Refusal :=
  match s.program with
  | [] => .next s
  | .read n a :: rest => hostRead n a { s with program := rest }
  | .write n a v :: rest => hostWrite n a v { s with program := rest }
  | .wait :: rest =>
    let v := s.readReg .status
    .next { s with busData := some v, program := if v.getLsbD 0 then s.program else rest }

/-- `CMDW v`: the write of CMD without the WAIT (R118). -/
def cmdw (v : Word) : HostOp := .write .word (regAddr .cmd) v

/-- A command line: the write of the command word to CMD, then WAIT (R117). -/
def commandLine (i : Instr) : List HostOp := [cmdw (encode i), .wait]

/-- `LOADIN b0, b1, ...` (R119). -/
def loadIn (bs : List Byte) : List HostOp :=
  bs.zipIdx.map (fun b => .write .byte (BitVec.ofNat 24 (ibufBase + b.2)) (b.1.setWidth 32))
    ++ [.write .word (regAddr .inLen) (BitVec.ofNat 32 bs.length)]

/-- `SELUSER W, H, kind, rule, arg`; kind and rule are the numbers of R111 (R119). -/
def selUser (W H kind rule arg : Nat) : List HostOp :=
  [.write .word (regAddr .ufmtGeom) (BitVec.ofNat 32 ((H <<< 16) ||| W)),
    .write .word (regAddr .ufmtCtrl) (BitVec.ofNat 32 ((arg <<< 8) ||| (rule <<< 2) ||| kind))]
    ++ commandLine (.selfmt 15)

/-- `DEINT4 p0, p1, p2, p3` (R119). -/
def deint4 (p0 p1 p2 p3 : Byte) : List HostOp :=
  .write .word (regAddr .din) (p3 ++ p2 ++ p1 ++ p0) :: commandLine .deint

/-- `UNPACK1 b` (R119). -/
def unpack1 (b : Byte) : List HostOp := .write .word (regAddr .din) (b.setWidth 32) :: commandLine .unpack

/-- `CLRDONE`: clears DONE and OVR (R119). -/
def clrDone : List HostOp := [.write .word (regAddr .status) 0x00000018]

/-- `CLRBANK`: loads an empty bank (R119). -/
def clrBank : List HostOp := .write .word (regAddr .inLen) 0 :: commandLine .ldbank

end Sys2Proof.Machine
end

