-- ==== Sys2Proof/Machine/Engine.lean ====
section
/-! DEFINITION. The Engine's one step, and the turns of Host, Engine and platform reset
(70_reset_and_hazards.md R400, R405, 20_memory.md R85). -/

namespace Sys2Proof.Machine

/-- The Engine's step: legality first (60_exceptions.md R305), then the command in CMD, as one atomic transition over the
state as it stands (R405). -/
def engineComplete (s : State) : Host.Outcome State Fault Refusal :=
  match decode s.cmd with
  | .ok i => exec i s
  | .error _ => .next (s.raise .illegalCmd)

/-- Whose turn it is: the schedule's first; with no schedule the Engine's while it has a command, else the host's
(log 4). -/
def State.nextTurn (s : State) : Turn :=
  match s.schedule with
  | t :: _ => t
  | [] => if s.busy then .engine else .host

/-- The turn is used up and no bus data stands from before (log 15). -/
def State.takeTurn (s : State) : State := { s with schedule := s.schedule.tail, busData := none }

/-- The state the Engine's step runs on. -/
def State.engineState (s : State) : State := s.takeTurn.tick

/-- One event of the total order of events (R85). An Engine turn while BUSY = 0 has no step to take (R405; log 4). -/
def takeStep (s : State) : Host.Outcome State Fault Refusal :=
  match s.nextTurn with
  | .host => hostStep s.takeTurn
  | .engine => if s.busy then engineComplete s.engineState else .next s.takeTurn
  | .reset => .next s.takeTurn.platformReset

/-- The state in which command word w has been accepted (R404) and the next turn is the Engine's. -/
def State.accepted (s : State) (w : Word) : State :=
  { s with cmd := w, busy := true, schedule := .engine :: s.schedule }

end Sys2Proof.Machine
end

