-- ==== Sys2Proof/Machine/Step.lean ====
section
/-! DEFINITION. One step of the machine. -/

namespace Sys2Proof.Machine

/-- One step: one event (Machine/Engine.lean), in a configuration 00_scope.md R10 allows; any other configuration is refused
(93_implementation_defined.md P1 to P4). -/
def step (s : State) : Host.Outcome State Fault Refusal :=
  if legalParams s.params then takeStep s else .refused .illegalParameters

/-- s with the command whose bits are w placed where the Engine takes its next command: the pending command of CMD
(10_state.md R47), the Engine to move. It stands for the host's write of CMD (log 3). -/
def State.withFetchWord (s : State) (nbits w : Nat) : State := s.accepted (BitVec.ofNat 32 (w % 2 ^ nbits))

end Sys2Proof.Machine
end

