-- ==== Sys2Proof/Safety.lean ====
section
/-! DEFINITION. What the statements say of states and runs: the invariant of every reachable state, what PAL_SRC says of
PAL, and the end of a run. -/

namespace Sys2Proof.Machine

/-- The multiples of 16 from 0 to 240: the levels a colour built from raw bytes has (40_palette_table.md R135). -/
def rawChannel (c : Byte) : Prop := c.toNat % 16 = 0 ∧ c.toNat ≤ 240

/-- Every channel of every entry is a raw level (R135). -/
def rawPalette (p : Palette) : Prop :=
  ∀ i : Fin 16, rawChannel p[i].r ∧ rawChannel p[i].g ∧ rawChannel p[i].b

/-- What holds of every reachable state. -/
structure State.Inv (s : State) : Prop where
  /-- The configuration is one 00_scope.md R10 allows. -/
  params : legalParams s.params = true
  /-- IBUF and OBUF keep their canonical form (log 5). -/
  mem : s.mem.wf s.params
  /-- STATUS.ERR is 1 iff ERRCODE is not 0 (10_state.md R23). -/
  err : s.err = decide (s.errCode ≠ .ok)
  /-- BANK_LEN is in range (10_state.md R28). -/
  bankLen : s.bankLength ≤ s.params.bankMax
  /-- Every slot of the loaded bank has been written (10_state.md R42). -/
  bankWritten : ∀ j : Fin 16, j.val < s.bankLength → s.pbank[j].isSome = true
  /-- A selected format is a legal descriptor (30_encoding.md R115). -/
  fmtLegal : s.fmtValid = true → legalDesc s.fmtCtrl = true
  /-- A selected format is decodable: width divisible by 8, pixels that fit in OBUF (44_dispatch.md R225, R233). -/
  fmtFits : s.fmtValid = true → geometryFits s.params.obufSize s.fmtGeom = true
  /-- OUT_LEN pixels fit in OBUF (44_dispatch.md R233). -/
  outLen : s.outLen.toNat ≤ s.params.obufSize

/-- PAL_SRC tells the truth about PAL (10_state.md R41): grey is the ramp; built-in, bank and direct palettes have raw
levels, as has every palette in the bank RAM (40_palette_table.md R135). -/
structure State.PaletteInv (s : State) : Prop where
  gray : s.palSrc = .gray → s.pal = Machine.gray
  raw : s.palSrc = .builtin ∨ s.palSrc = .bank ∨ s.palSrc = .direct → rawPalette s.pal
  bank : ∀ (j : Fin 16) (p : Palette), s.pbank[j] = some p → rawPalette p

/-- The host has made its last access and no command is pending: the run is over (70_reset_and_hazards.md R413). -/
def State.finished (s : State) : Bool := s.program.isEmpty && !s.busy

end Sys2Proof.Machine
end

