-- ==== Sys2Proof/Certificates/Slice0/Obligations.lean ====
section
/-! DEFINITION. The statements for the provers. Each docstring names the rules of spec/ it formalises. -/

open Sys2Proof Sys2Proof.Machine

/-! ## Encoding -/

/-- Decode and encode agree (R100, R103, R104): decoding the encoding of a well-formed command gives the command back, whatever
its format ID, and a word that decodes is the encoding of what it decodes to, so that no word has two spellings and no bit of
it is dropped. -/
def Obligations.DecodeAndEncodeAgree : Prop :=
  (∀ i : Instr, i.WellFormed = true → decode (encode i) = .ok i) ∧
  ∀ (w : Word) (i : Instr), decode w = .ok i → i.WellFormed = true ∧ encode i = w

/-- The words of R117 and R120, written out: each legal word decodes to its command, each illegal one to none. -/
def Obligations.SpecWordsDecode : Prop :=
  decode 0b00000000000000000000000000000000 = .ok .nop ∧
  decode 0b00000000000000000000000000000001 = .ok (.selfmt 0) ∧
  decode 0b00000000000000000000011100000001 = .ok (.selfmt 7) ∧
  decode 0b00000000000000000000111100000001 = .ok (.selfmt 15) ∧
  decode 0b00000000000000000000000000000010 = .ok .ldbank ∧
  decode 0b00000000000000000000000000000011 = .ok .ldpal ∧
  decode 0b00000000000000000000000000000100 = .ok .resolve ∧
  decode 0b00000000000000000000000000000101 = .ok .decode ∧
  decode 0b00000000000000000000000000000110 = .ok .deint ∧
  decode 0b00000000000000000000000000000111 = .ok .unpack ∧
  (∀ w ∈ [(0x00000105 : Word), 0x00000008, 0x00001001], ∀ i, decode w ≠ .ok i)

/-! ## Steps -/

/-- The Engine's step (R405): when it is the Engine's turn and a command is pending whose word decodes to i, the step is i's
meaning on the state. What is the model's choice and not R405's: the turns (log 3), that with no turn left it is the Engine's
(log 4), the new index for the free values (log 6) and that the bus data of the step before is gone (log 15). -/
def Obligations.StepRunsTheDecodedCommand : Prop :=
  ∀ (s : State) (i : Instr), legalParams s.params = true → s.busy = true →
    (s.schedule.head? = some .engine ∨ s.schedule = []) → decode s.cmd = .ok i →
    step s = exec i { s with schedule := s.schedule.tail, busData := none, freeIndex := s.freeIndex + 1 }

/-- A pending word is a command to run exactly when it is legal by R104; a word that is not completes with ILLEGAL_CMD and
changes nothing of the block but the completion status (R104, R305). That the step uses up a turn (log 3), takes a new index
for the free values (log 6) and drops the bus data of the step before (log 15) is the model's choice. -/
def Obligations.PendingWordRunsExactlyWhenLegal : Prop :=
  ∀ s : State, legalParams s.params = true → s.busy = true → s.schedule.head? = some .engine →
    ((s.cmd.extractLsb' 0 8).toNat ≤ 0x07 ∧ s.cmd.extractLsb' 12 20 = 0 ∧
        (s.cmd.extractLsb' 0 8 = 0x01 ∨ s.cmd.extractLsb' 8 4 = 0) →
      ∃ i, decode s.cmd = .ok i ∧
        step s = exec i { s with schedule := s.schedule.tail, busData := none, freeIndex := s.freeIndex + 1 }) ∧
    (¬ ((s.cmd.extractLsb' 0 8).toNat ≤ 0x07 ∧ s.cmd.extractLsb' 12 20 = 0 ∧
        (s.cmd.extractLsb' 0 8 = 0x01 ∨ s.cmd.extractLsb' 8 4 = 0)) →
      step s = .next { s with
        errCode := .illegalCmd, err := true, done := true, busy := false,
        schedule := s.schedule.tail, busData := none, freeIndex := s.freeIndex + 1 })

/-- The host's step: its next operation is a bus read, a bus write, or a WAIT, which reads STATUS and goes on only when bit 0
of it is 0 (R118; the program and the turns are the model's, log 3, as is where the data of a read stands, log 15). -/
def Obligations.StepRunsTheHostOperation : Prop :=
  ∀ (s : State) (rest : List HostOp), legalParams s.params = true → s.schedule.head? = some .host →
    (∀ n a, s.program = .read n a :: rest →
      step s = hostRead n a { s with schedule := s.schedule.tail, busData := none, program := rest }) ∧
    (∀ n a v, s.program = .write n a v :: rest →
      step s = hostWrite n a v { s with schedule := s.schedule.tail, busData := none, program := rest }) ∧
    (s.program = .wait :: rest →
      step s = .next { s with
        schedule := s.schedule.tail, busData := some s.statusWord,
        program := if s.busy then .wait :: rest else rest })

/-- Reset sets every piece of the block's state to its value of R401 in one step and abandons a pending command
(R400, R401, R403); the host's program and turns go on (the model's choice, log 13). A byte or a slot whose reset value R401 leaves
unspecified has none (log 5, log 7). -/
def Obligations.ResetTurnSetsTheResetState : Prop :=
  ∀ s : State, legalParams s.params = true → s.schedule.head? = some .reset →
    ∃ t, step s = .next t ∧
      t.cmd = 0 ∧ t.statusWord = 0x00000060 ∧ t.readReg .errcode = 0 ∧ t.readReg .ctrl = 0 ∧ t.irq = false ∧
      t.inLen = 0 ∧ t.outLen = 0 ∧ t.bankLen = 0 ∧ t.readReg .fmtId = 0 ∧ t.fmtGeom = 0 ∧ t.readReg .fmtCtrl = 0 ∧
      t.ufmtGeom = 0 ∧ t.ufmtCtrl = 0 ∧ t.din = 0 ∧ t.doutLo = 0 ∧ t.doutHi = 0 ∧ t.pal = gray ∧ t.mem = [] ∧
      (∀ j : Fin 16, t.pbank[j] = none) ∧ t.params = s.params ∧
      t.program = s.program ∧ t.schedule = s.schedule.tail

/-- The state after reset, in the values of R401 as the host reads them; IBUF and OBUF bytes have no value (log 5). -/
def Obligations.ResetHoldsTheSpecValues : Prop :=
  State.reset.readReg .id = 0x53505801 ∧ State.reset.readReg .cmd = 0 ∧ State.reset.readReg .status = 0x00000060 ∧
  State.reset.readReg .errcode = 0 ∧ State.reset.readReg .ctrl = 0 ∧ State.reset.irq = false ∧
  State.reset.readReg .inLen = 0 ∧ State.reset.readReg .outLen = 0 ∧ State.reset.readReg .bankLen = 0 ∧
  State.reset.readReg .fmtId = 0 ∧ State.reset.readReg .fmtGeom = 0 ∧ State.reset.readReg .fmtCtrl = 0 ∧
  State.reset.readReg .ufmtGeom = 0 ∧ State.reset.readReg .ufmtCtrl = 0 ∧ State.reset.readReg .din = 0 ∧
  State.reset.readReg .doutLo = 0 ∧ State.reset.readReg .doutHi = 0 ∧ State.reset.readReg .cfgIbuf = 0x20000 ∧
  State.reset.readReg .cfgObuf = 0x40000 ∧ State.reset.readReg .cfgBank = 16 ∧
  (∀ i : Fin 16, State.reset.pal[i] = ⟨BitVec.ofNat 8 (17 * i), BitVec.ofNat 8 (17 * i), BitVec.ofNat 8 (17 * i)⟩) ∧
  (∀ a, ibufBase ≤ a → State.reset.mem.read a = none)

/-- A write of CMD while BUSY = 0 accepts the word and does nothing else; while BUSY = 1 it is dropped and sets OVR
(R22, R404, R307). The index of the free values is the model's (log 6). -/
def Obligations.CmdWriteAcceptsOrSetsOverrun : Prop :=
  ∀ (s : State) (w : Word),
    (s.busy = false →
      hostWrite .word 0x000004 w s = .next { s with cmd := w, busy := true, freeIndex := s.freeIndex + 1 }) ∧
    (s.busy = true → hostWrite .word 0x000004 w s = .next { s with ovr := true, freeIndex := s.freeIndex + 1 })

/-- A pending command is over after at most one step more than there are turns in the schedule: it has completed, it was
abandoned by a reset, or a fault has ended the run; it is never refused (R406). That the Engine moves once the schedule is
used up is the model's choice (log 4). -/
def Obligations.PendingCommandEndsWithinTheSchedule : Prop :=
  ∀ s : State, legalParams s.params = true → s.busy = true →
    ∃ k, k ≤ s.schedule.length + 1 ∧
      ((∃ t, Sys2Proof.core.run k s = .next t ∧ t.busy = false) ∨ ∃ f, Sys2Proof.core.run k s = .fault f)

/-- A step is refused exactly when the configuration is one R10 does not allow (93_implementation_defined.md P1 to P4). -/
def Obligations.StepRefusesExactlyIllegalConfigurations : Prop :=
  ∀ (s : State) (r : Refusal),
    step s = .refused r ↔ (legalParams s.params = false ∧ r = .illegalParameters)

/-! ## Commands -/

/-- NOP writes the completion status and nothing else (R240, R302). -/
def Obligations.NopCompletes : Prop :=
  ∀ s : State, exec .nop s = .next { s with errCode := .ok, err := false, done := true, busy := false }

/-- DEINT (R188): nibble j of DOUT_LO holds bit 7 - j of the four bytes of DIN, blue in bit 0 and intensity in bit 3;
DOUT_HI is 0; nothing else changes but the completion status. -/
def Obligations.DeintFillsEightNibbles : Prop :=
  ∀ s : State, ∃ lo : Word,
    exec .deint s = .next { s with
      doutLo := lo, doutHi := 0, errCode := .ok, err := false, done := true, busy := false } ∧
    ∀ j, j < 8 → lo.extractLsb' (4 * j) 4 =
      BitVec.ofBool (s.din.getLsbD (24 + (7 - j))) ++ BitVec.ofBool (s.din.getLsbD (16 + (7 - j)))
        ++ BitVec.ofBool (s.din.getLsbD (8 + (7 - j))) ++ BitVec.ofBool (s.din.getLsbD (7 - j))

/-- UNPACK (R205): byte j of DOUT_LO for j = 0 to 3 and byte j - 4 of DOUT_HI for j = 4 to 7 is 255 if bit 7 - j of DIN is
set, else 0; nothing else changes but the completion status. -/
def Obligations.UnpackFillsEightBytes : Prop :=
  ∀ s : State, ∃ lo hi : Word,
    exec .unpack s = .next { s with
      doutLo := lo, doutHi := hi, errCode := .ok, err := false, done := true, busy := false } ∧
    (∀ j, j < 4 → lo.extractLsb' (8 * j) 8 = if s.din.getLsbD (7 - j) then 255 else 0) ∧
    ∀ j, 4 ≤ j → j < 8 → hi.extractLsb' (8 * (j - 4)) 8 = if s.din.getLsbD (7 - j) then 255 else 0

/-- The lane law of DEINT (R189): lane j is pixel j of the 8 x 1 decode of the four bytes of DIN. -/
def Obligations.DeintIsTheDecodeOfOneGroup : Prop :=
  ∀ s t : State, exec .deint s = .next t → ∀ j, j < 8 →
    (bpDecode (fun p => s.din.extractLsb' (8 * p) 8) 8 1)[j]? = some ((t.doutLo.extractLsb' (4 * j) 4).setWidth 8)

/-- The lane law of UNPACK (R206): byte j of DOUT_HI ++ DOUT_LO is pixel j of the 8 x 1 decode of DIN[7:0]. -/
def Obligations.UnpackIsTheDecodeOfOneByte : Prop :=
  ∀ s t : State, exec .unpack s = .next t → ∀ j, j < 8 →
    (glDecode (fun _ => s.din.extractLsb' 0 8) 8 1)[j]? = some ((t.doutHi ++ t.doutLo).extractLsb' (8 * j) 8)

/-- SELFMT (R225): with (g, c) the ROM entry of fid, or the user registers for fid = 15 (R224), it selects the format when the
entry is valid, c legal, W divisible by 8 and W * H at most OBUF_SIZE; else it clears FMT_VALID and reports the first of
UNKNOWN_FORMAT, ILLEGAL_DESCRIPTOR, GEOMETRY and CAPACITY that applies. -/
def Obligations.SelfmtSelectsOrReports : Prop :=
  ∀ (fid : FormatId) (s : State) (g c : Word),
    (∀ h : fid.toNat < 15, s.params.formatRom[fid.toNat] = ⟨g, c⟩) →
    (fid = 15 → s.ufmtGeom = g ∧ s.ufmtCtrl = c) →
    ((fid = 15 ∨ c.getLsbD 31 = true) → legalDesc (c.setWidth 31) = true → (g.extractLsb' 0 16).toNat % 8 = 0 →
      (g.extractLsb' 0 16).toNat * (g.extractLsb' 16 16).toNat ≤ s.params.obufSize →
      exec (.selfmt fid) s = .next { s with
        fmtId := fid, fmtGeom := g, fmtCtrl := c.setWidth 31, fmtValid := true,
        errCode := .ok, err := false, done := true, busy := false }) ∧
    (fid ≠ 15 → c.getLsbD 31 = false →
      exec (.selfmt fid) s = .next { s with
        fmtValid := false, errCode := .unknownFormat, err := true, done := true, busy := false }) ∧
    ((fid = 15 ∨ c.getLsbD 31 = true) → legalDesc (c.setWidth 31) = false →
      exec (.selfmt fid) s = .next { s with
        fmtValid := false, errCode := .illegalDescriptor, err := true, done := true, busy := false }) ∧
    ((fid = 15 ∨ c.getLsbD 31 = true) → legalDesc (c.setWidth 31) = true → (g.extractLsb' 0 16).toNat % 8 ≠ 0 →
      exec (.selfmt fid) s = .next { s with
        fmtValid := false, errCode := .geometry, err := true, done := true, busy := false }) ∧
    ((fid = 15 ∨ c.getLsbD 31 = true) → legalDesc (c.setWidth 31) = true → (g.extractLsb' 0 16).toNat % 8 = 0 →
      s.params.obufSize < (g.extractLsb' 0 16).toNat * (g.extractLsb' 16 16).toNat →
      exec (.selfmt fid) s = .next { s with
        fmtValid := false, errCode := .capacity, err := true, done := true, busy := false })

/-- A descriptor is legal in exactly the three shapes of R115. -/
def Obligations.LegalDescriptorsHaveThreeShapes : Prop :=
  ∀ c : CtrlBits, legalDesc c = true ↔
    (c.extractLsb' 16 15 = 0 ∧ c.extractLsb' 4 4 = 0 ∧ c.getLsbD 1 = false ∧
      ((c.getLsbD 0 = false ∧ c.extractLsb' 2 2 = 1 ∧ (c.extractLsb' 8 8).toNat ≤ 2) ∨
        (c.getLsbD 0 = false ∧ c.extractLsb' 2 2 = 2) ∨
        (c.getLsbD 0 = true ∧ c.extractLsb' 2 2 = 0 ∧ c.extractLsb' 8 8 = 0)))

/-- LDBANK (R140): when the length is a multiple of 64 of at most BANK_MAX blocks and the bytes it parses have been written,
slot j becomes the palette of block j, later slots stay, and BANK_LEN is the number of blocks; else BANK_LEN becomes 0 and
the first of CAPACITY, FORMAT_BANKLEN and CAPACITY is reported. -/
def Obligations.LdbankLoadsOrReports : Prop :=
  ∀ (s : State) (M : Nat → Byte),
    (s.inLen.toNat ≤ s.params.ibufSize → s.inLen.toNat % 64 = 0 → s.inLen.toNat / 64 ≤ s.params.bankMax →
      (∀ j i c, j < s.inLen.toNat / 64 → i < 16 → c < 3 →
        s.mem.read (ibufBase + (64 * j + 4 * i + c)) = some (M (64 * j + 4 * i + c))) →
      ∃ bank : Vector (Option Palette) 16,
        exec .ldbank s = .next { s with
          pbank := bank, bankLen := BitVec.ofNat 32 (s.inLen.toNat / 64),
          errCode := .ok, err := false, done := true, busy := false } ∧
        ∀ j : Fin 16, bank[j] =
          if j.val < s.inLen.toNat / 64 then some (parseBlock M (64 * j)) else s.pbank[j]) ∧
    (s.params.ibufSize < s.inLen.toNat →
      exec .ldbank s = .next { s with
        bankLen := 0, errCode := .capacity, err := true, done := true, busy := false }) ∧
    (s.inLen.toNat ≤ s.params.ibufSize → s.inLen.toNat % 64 ≠ 0 →
      exec .ldbank s = .next { s with
        bankLen := 0, errCode := .formatBankLen, err := true, done := true, busy := false }) ∧
    (s.inLen.toNat ≤ s.params.ibufSize → s.inLen.toNat % 64 = 0 → s.params.bankMax < s.inLen.toNat / 64 →
      exec .ldbank s = .next { s with
        bankLen := 0, errCode := .capacity, err := true, done := true, busy := false })

/-- LDPAL (R142): when the length is 64 and the 48 bytes it parses have been written, PAL is the block's palette and PAL_SRC is
DIRECT; else the first of CAPACITY and FORMAT_LENGTH is reported and nothing else changes. -/
def Obligations.LdpalLoadsOrReports : Prop :=
  ∀ (s : State) (M : Nat → Byte),
    (64 ≤ s.params.ibufSize → s.inLen.toNat = 64 →
      (∀ i c, i < 16 → c < 3 → s.mem.read (ibufBase + (4 * i + c)) = some (M (4 * i + c))) →
      exec .ldpal s = .next { s with
        pal := parseBlock M 0, palSrc := .direct, errCode := .ok, err := false, done := true, busy := false }) ∧
    (s.params.ibufSize < s.inLen.toNat →
      exec .ldpal s = .next { s with errCode := .capacity, err := true, done := true, busy := false }) ∧
    (s.inLen.toNat ≤ s.params.ibufSize → s.inLen.toNat ≠ 64 →
      exec .ldpal s = .next { s with errCode := .formatLength, err := true, done := true, busy := false })

/-- RESOLVE (R162, R164, R165): with no format NO_FORMAT; a built-in from its ROM block; a bank palette below BANK_LEN; the
grey ramp at or above it; with rule None, PAL as it was and PAL_SRC = 0. -/
def Obligations.ResolveSelectsThePalette : Prop :=
  ∀ s : State,
    (s.fmtValid = false →
      exec .resolve s = .next { s with errCode := .noFormat, err := true, done := true, busy := false }) ∧
    (s.fmtValid = true →
      (∀ k : Fin 3, s.fmtCtrl.extractLsb' 2 2 = 1 → s.fmtCtrl.extractLsb' 8 8 = BitVec.ofNat 8 k →
        exec .resolve s = .next { s with
          pal := parseBlock (fun a => Config.builtinRom (64 * k + a)) 0, palSrc := .builtin,
          errCode := .ok, err := false, done := true, busy := false }) ∧
      (∀ p : Palette, s.fmtCtrl.extractLsb' 2 2 = 2 → (s.fmtCtrl.extractLsb' 8 8).toNat < s.bankLen.toNat →
        s.pbank[(s.fmtCtrl.extractLsb' 8 8).toNat]? = some (some p) →
        exec .resolve s = .next { s with
          pal := p, palSrc := .bank, errCode := .ok, err := false, done := true, busy := false }) ∧
      (s.fmtCtrl.extractLsb' 2 2 = 2 → s.bankLen.toNat ≤ (s.fmtCtrl.extractLsb' 8 8).toNat →
        exec .resolve s = .next { s with
          pal := gray, palSrc := .gray, errCode := .ok, err := false, done := true, busy := false }) ∧
      (s.fmtCtrl.extractLsb' 2 2 = 0 →
        exec .resolve s = .next { s with
          palSrc := .noPalette, errCode := .ok, err := false, done := true, busy := false }))

/-- DECODE of a bitplane4 format (R182, R183, R186, R230): with enough input, all of it written, byte y * W + x of OBUF is the
palette index of pixel (x, y), OUT_LEN is W * H, PAL and PAL_SRC are what RESOLVE gives, and nothing else changes but the
completion status. -/
def Obligations.DecodeWritesBitplanePixels : Prop :=
  ∀ (s : State) (M : Nat → Byte) (W H : Nat),
    W = (s.fmtGeom.extractLsb' 0 16).toNat → H = (s.fmtGeom.extractLsb' 16 16).toNat →
    s.fmtValid = true → legalDesc s.fmtCtrl = true → s.fmtCtrl.getLsbD 0 = false → W % 8 = 0 →
    s.inLen.toNat ≤ s.params.ibufSize → W * H / 2 ≤ s.inLen.toNat →
    (∀ a, a < W * H / 2 → s.mem.read (ibufBase + a) = some (M a)) →
    ∃ t u, exec .decode s = .next t ∧ exec .resolve s = .next u ∧
      t = { s with
        mem := t.mem, outLen := BitVec.ofNat 32 (W * H), pal := u.pal, palSrc := u.palSrc,
        errCode := .ok, err := false, done := true, busy := false } ∧
      (∀ x y, x < W → y < H → t.mem.read (obufBase + (y * W + x)) = some
        ((0 : BitVec 4)
          ++ BitVec.ofBool ((M (y * (4 * (W / 8)) + 3 * (W / 8) + x / 8)).getLsbD (7 - x % 8))
          ++ BitVec.ofBool ((M (y * (4 * (W / 8)) + 2 * (W / 8) + x / 8)).getLsbD (7 - x % 8))
          ++ BitVec.ofBool ((M (y * (4 * (W / 8)) + 1 * (W / 8) + x / 8)).getLsbD (7 - x % 8))
          ++ BitVec.ofBool ((M (y * (4 * (W / 8)) + 0 * (W / 8) + x / 8)).getLsbD (7 - x % 8)))) ∧
      ∀ a, ¬ (obufBase ≤ a ∧ a < obufBase + W * H) → t.mem.read a = s.mem.read a

/-- DECODE of a font1bit format (R201, R202, R204, R230): byte y * W + x of OBUF is 255 or 0 by its bit, OUT_LEN is W * H, PAL
stays and PAL_SRC is 0, and nothing else changes but the completion status. -/
def Obligations.DecodeWritesGlyphPixels : Prop :=
  ∀ (s : State) (M : Nat → Byte) (W H : Nat),
    W = (s.fmtGeom.extractLsb' 0 16).toNat → H = (s.fmtGeom.extractLsb' 16 16).toNat →
    s.fmtValid = true → s.fmtCtrl.getLsbD 0 = true → W % 8 = 0 →
    s.inLen.toNat ≤ s.params.ibufSize → W * H / 8 ≤ s.inLen.toNat →
    (∀ a, a < W * H / 8 → s.mem.read (ibufBase + a) = some (M a)) →
    ∃ t, exec .decode s = .next t ∧
      t = { s with
        mem := t.mem, outLen := BitVec.ofNat 32 (W * H), palSrc := .noPalette,
        errCode := .ok, err := false, done := true, busy := false } ∧
      (∀ x y, x < W → y < H → t.mem.read (obufBase + (y * W + x)) =
        some (if (M (y * (W / 8) + x / 8)).getLsbD (7 - x % 8) then 255 else 0)) ∧
      ∀ a, ¬ (obufBase ≤ a ∧ a < obufBase + W * H) → t.mem.read a = s.mem.read a

/-- A failed DECODE (R230): the first of NO_FORMAT, CAPACITY and FORMAT_LENGTH that applies is reported, OUT_LEN becomes 0, and
nothing else changes. -/
def Obligations.DecodeReportsItsFirstError : Prop :=
  ∀ s : State,
    (s.fmtValid = false →
      exec .decode s = .next { s with
        outLen := 0, errCode := .noFormat, err := true, done := true, busy := false }) ∧
    (s.fmtValid = true → s.params.ibufSize < s.inLen.toNat →
      exec .decode s = .next { s with
        outLen := 0, errCode := .capacity, err := true, done := true, busy := false }) ∧
    (s.fmtValid = true → s.inLen.toNat ≤ s.params.ibufSize →
      s.inLen.toNat < (if s.fmtCtrl.getLsbD 0 then
          (s.fmtGeom.extractLsb' 0 16).toNat * (s.fmtGeom.extractLsb' 16 16).toNat / 8
        else (s.fmtGeom.extractLsb' 0 16).toNat * (s.fmtGeom.extractLsb' 16 16).toNat / 2) →
      exec .decode s = .next { s with
        outLen := 0, errCode := .formatLength, err := true, done := true, busy := false })

/-- A command that passes its checks is a model fault exactly when one of the bytes it reads has not been written since reset
(R402): the first three bytes of each palette entry for LDPAL and LDBANK (R133), the first `need` bytes for DECODE. That DECODE
reads all of those is an inference from R182 to R186 and R203 (log 8). -/
def Obligations.UnwrittenInputIsAFaultExactlyWhenRead : Prop :=
  ∀ s : State,
    (s.inLen.toNat = 64 → 64 ≤ s.params.ibufSize →
      ((∃ x, exec .ldpal s = .fault (.uninitInput x)) ↔
        ∃ i c, i < 16 ∧ c < 3 ∧ s.mem.read (ibufBase + (4 * i + c)) = none)) ∧
    (s.inLen.toNat ≤ s.params.ibufSize → s.inLen.toNat % 64 = 0 → s.inLen.toNat / 64 ≤ s.params.bankMax →
      ((∃ x, exec .ldbank s = .fault (.uninitInput x)) ↔
        ∃ j i c, j < s.inLen.toNat / 64 ∧ i < 16 ∧ c < 3 ∧ s.mem.read (ibufBase + (64 * j + 4 * i + c)) = none)) ∧
    (∀ need, need = (if s.fmtCtrl.getLsbD 0 then
          (s.fmtGeom.extractLsb' 0 16).toNat * (s.fmtGeom.extractLsb' 16 16).toNat / 8
        else (s.fmtGeom.extractLsb' 0 16).toNat * (s.fmtGeom.extractLsb' 16 16).toNat / 2) →
      s.fmtValid = true → s.inLen.toNat ≤ s.params.ibufSize → need ≤ s.inLen.toNat →
      ((∃ x, exec .decode s = .fault (.uninitInput x)) ↔ ∃ a, a < need ∧ s.mem.read (ibufBase + a) = none))

/-- Every unwritten byte a command stops at is an unwritten byte of IBUF, below IN_LEN (R45, R402). -/
def Obligations.UninitInputNamesAnUnwrittenByte : Prop :=
  ∀ (i : Instr) (s : State) (x : Nat), exec i s = .fault (.uninitInput x) →
    s.mem.read x = none ∧ ibufBase ≤ x ∧ x < ibufBase + s.inLen.toNat ∧ x < ibufBase + s.params.ibufSize

/-- The palette loads do not depend on the fourth byte of an entry, nor on any other byte of memory their parse does not name
(R133). -/
def Obligations.PaletteLoadsIgnoreTheFourthByte : Prop :=
  ∀ (s t : State) (m : Memory),
    ((∀ i c, i < 16 → c < 3 → Memory.read m (ibufBase + (4 * i + c)) = s.mem.read (ibufBase + (4 * i + c))) →
      exec .ldpal s = .next t → exec .ldpal { s with mem := m } = .next { t with mem := m }) ∧
    ((∀ j i c, j < s.inLen.toNat / 64 → i < 16 → c < 3 →
        Memory.read m (ibufBase + (64 * j + 4 * i + c)) = s.mem.read (ibufBase + (64 * j + 4 * i + c))) →
      exec .ldbank s = .next t → exec .ldbank { s with mem := m } = .next { t with mem := m })

/-- A successful DECODE depends on no byte of memory but the first `need` bytes of IBUF (R184, R203, R230). -/
def Obligations.DecodeIgnoresBytesPastItsNeed : Prop :=
  ∀ (s t : State) (m : Memory), (s.fmtGeom.extractLsb' 0 16).toNat % 8 = 0 →
    (∀ a, a < (if s.fmtCtrl.getLsbD 0 then
          (s.fmtGeom.extractLsb' 0 16).toNat * (s.fmtGeom.extractLsb' 16 16).toNat / 8
        else (s.fmtGeom.extractLsb' 0 16).toNat * (s.fmtGeom.extractLsb' 16 16).toNat / 2) →
      Memory.read m (ibufBase + a) = s.mem.read (ibufBase + a)) →
    exec .decode s = .next t → t.err = false →
    ∃ t', exec .decode { s with mem := m } = .next t' ∧ t' = { t with mem := t'.mem } ∧
      ∀ a, a < (s.fmtGeom.extractLsb' 0 16).toNat * (s.fmtGeom.extractLsb' 16 16).toNat →
        t'.mem.read (obufBase + a) = t.mem.read (obufBase + a)

/-! ## Pixels and palettes -/

/-- A bitplane decode has exactly W * H bytes, each a palette index 0 to 15 (R187). -/
def Obligations.BitplaneDecodeGivesIndices : Prop :=
  ∀ (M : Nat → Byte) (W H : Nat), W % 8 = 0 →
    (bpDecode M W H).length = W * H ∧ ∀ b ∈ bpDecode M W H, b.toNat ≤ 15

/-- A glyph decode (R204): W * H bytes, the byte of pixel (x, y) at y * W + x, each 0 or 255. -/
def Obligations.GlyphDecodeGivesBlackOrWhite : Prop :=
  ∀ (M : Nat → Byte) (W H : Nat), W % 8 = 0 →
    (glDecode M W H).length = W * H ∧ (∀ b ∈ glDecode M W H, b = 0 ∨ b = 255) ∧
    ∀ x y, x < W → y < H →
      (glDecode M W H)[y * W + x]? = some (if (M (y * (W / 8) + x / 8)).getLsbD (7 - x % 8) then 255 else 0)

/-- A parsed block (R130, R131, R133, R135): the channels of entry i are 16 times the low nibbles of the bytes at 4i, 4i + 1 and
4i + 2, hence multiples of 16 in [0, 240]. -/
def Obligations.ParsedBlockHasRawLevels : Prop :=
  ∀ (M : Nat → Byte) (base : Nat) (i : Fin 16),
    (parseBlock M base)[i].r.toNat = 16 * ((M (base + 4 * i)).toNat % 16) ∧
    (parseBlock M base)[i].g.toNat = 16 * ((M (base + 4 * i + 1)).toNat % 16) ∧
    (parseBlock M base)[i].b.toNat = 16 * ((M (base + 4 * i + 2)).toNat % 16) ∧
    (∀ c ∈ [(parseBlock M base)[i].r, (parseBlock M base)[i].g, (parseBlock M base)[i].b],
      c.toNat % 16 = 0 ∧ c.toNat ≤ 240)

/-- The grey ramp as RGB words (R161): entry i is i * 0x00111111. -/
def Obligations.GreyRampWords : Prop :=
  ∀ i : Fin 16, gray[i] = ⟨BitVec.ofNat 8 (17 * i), BitVec.ofNat 8 (17 * i), BitVec.ofNat 8 (17 * i)⟩ ∧
    palx gray i = BitVec.ofNat 32 (i * 0x00111111)

/-- After a successful RESOLVE on a bitplane4 format (R166): PAL_SRC is 1, 2 or 3; it is 3 exactly for a bank index at or above
BANK_LEN; else every channel of PAL is a multiple of 16 in [0, 240]. -/
def Obligations.ResolvedPaletteLaw : Prop :=
  ∀ s t : State, s.Inv → s.PaletteInv → exec .resolve s = .next t → t.err = false → s.fmtCtrl.getLsbD 0 = false →
    (t.palSrc = .builtin ∨ t.palSrc = .bank ∨ t.palSrc = .gray) ∧
    (t.palSrc = .gray ↔
      (s.fmtCtrl.extractLsb' 2 2 = 2 ∧ s.bankLen.toNat ≤ (s.fmtCtrl.extractLsb' 8 8).toNat)) ∧
    (t.palSrc ≠ .gray → ∀ i : Fin 16, ∀ c ∈ [t.pal[i].r, t.pal[i].g, t.pal[i].b], c.toNat % 16 = 0 ∧ c.toNat ≤ 240)

/-- The end-to-end law (R235): an 8 x 8 bitplane4 decode of 32 zero bytes gives 64 zero pixels, all of colour PALX(0). -/
def Obligations.ZeroImageDecodesToEntryZero : Prop :=
  ∀ s : State, s.fmtValid = true → s.fmtGeom = 0x00080008 → legalDesc s.fmtCtrl = true → s.fmtCtrl.getLsbD 0 = false →
    32 ≤ s.inLen.toNat → s.inLen.toNat ≤ s.params.ibufSize →
    (∀ a, a < 32 → s.mem.read (ibufBase + a) = some 0) →
    ∃ t, exec .decode s = .next t ∧ t.outLen = 64 ∧ t.errCode = .ok ∧
      ∀ a, a < 64 → ∃ b, t.mem.read (obufBase + a) = some b ∧ b = 0 ∧ palx t.pal b.toNat = palx t.pal 0

/-! ## Whole-machine rules -/

/-- Every step keeps the invariant, from every state that has it. -/
def Obligations.StepKeepsTheInvariant : Prop :=
  ∀ s t : State, s.Inv → step s = .next t → t.Inv

/-- The state after reset has the invariant, in every configuration R10 allows and so in the default one. -/
def Obligations.ResetHasTheInvariant : Prop :=
  (∀ p : Params, legalParams p = true → (State.initial p).Inv) ∧ State.reset.Inv

/-- Every step keeps PAL_SRC true of PAL (R41): a grey palette is the ramp, and the palettes of the built-in, bank and direct
sources, and those in the bank RAM, have raw levels. -/
def Obligations.StepKeepsPalSrcTrue : Prop :=
  ∀ s t : State, s.Inv → s.PaletteInv → step s = .next t → t.PaletteInv

/-- After reset PAL_SRC is true of PAL: it says grey and PAL is the ramp (R40, R41). -/
def Obligations.ResetHasPalSrcTrue : Prop := State.reset.PaletteInv

/-- Every completion (R302, R303, R310): BUSY is 0, DONE is 1, ERR is 1 iff ERRCODE is not 0, and so irq is CTRL.IE (R49). -/
def Obligations.EveryCompletionReports : Prop :=
  ∀ (i : Instr) (s t : State), exec i s = .next t →
    t.busy = false ∧ t.done = true ∧ (t.err = true ↔ t.errCode ≠ .ok) ∧ t.irq = s.ie

/-- Each command reports only the error codes of its row of R306. -/
def Obligations.CommandsReportTheirOwnErrors : Prop :=
  ∀ (i : Instr) (s t : State), exec i s = .next t →
    match i with
    | .nop | .deint | .unpack => t.errCode = .ok
    | .selfmt _ => t.errCode ∈ [ErrCode.ok, .unknownFormat, .illegalDescriptor, .geometry, .capacity]
    | .ldbank => t.errCode ∈ [ErrCode.ok, .capacity, .formatBankLen]
    | .ldpal => t.errCode ∈ [ErrCode.ok, .capacity, .formatLength]
    | .resolve => t.errCode ∈ [ErrCode.ok, .noFormat]
    | .decode => t.errCode ∈ [ErrCode.ok, .noFormat, .capacity, .formatLength]

/-- A command writes only what its row of R103 lists and the completion status; what a DECODE writes in memory lies in the W * H
bytes of OBUF from its start. -/
def Obligations.CommandsWriteOnlyTheirColumn : Prop :=
  ∀ (i : Instr) (s t : State), exec i s = .next t →
    (t.cmd = s.cmd ∧ t.ovr = s.ovr ∧ t.ie = s.ie ∧ t.inLen = s.inLen ∧ t.ufmtGeom = s.ufmtGeom ∧
      t.ufmtCtrl = s.ufmtCtrl ∧ t.din = s.din ∧ t.params = s.params ∧ t.program = s.program ∧
      t.schedule = s.schedule ∧ t.busData = s.busData ∧ t.freeIndex = s.freeIndex) ∧
    ((∀ f, i ≠ .selfmt f) →
      t.fmtValid = s.fmtValid ∧ t.fmtId = s.fmtId ∧ t.fmtGeom = s.fmtGeom ∧ t.fmtCtrl = s.fmtCtrl) ∧
    (i ≠ .ldbank → t.bankLen = s.bankLen ∧ t.pbank = s.pbank) ∧
    (i ≠ .ldpal → i ≠ .resolve → i ≠ .decode → t.pal = s.pal ∧ t.palSrc = s.palSrc) ∧
    (i ≠ .deint → i ≠ .unpack → t.doutLo = s.doutLo ∧ t.doutHi = s.doutHi) ∧
    (i ≠ .decode → t.outLen = s.outLen ∧ ∀ a, t.mem.read a = s.mem.read a) ∧
    (∀ a, ¬ (obufBase ≤ a ∧
        a < obufBase + (s.fmtGeom.extractLsb' 0 16).toNat * (s.fmtGeom.extractLsb' 16 16).toNat) →
      t.mem.read a = s.mem.read a)

/-- A command that fails writes, besides the completion status, only BANK_LEN = 0 (LDBANK), FMT_VALID = 0 (SELFMT) or
OUT_LEN = 0 (DECODE) (R303). -/
def Obligations.FailedCommandsWriteOnlyTheirMark : Prop :=
  ∀ (i : Instr) (s t : State), exec i s = .next t → t.err = true →
    t = { s with
      bankLen := if i = .ldbank then 0 else s.bankLen
      fmtValid := match i with
        | .selfmt _ => false
        | _ => s.fmtValid
      outLen := if i = .decode then 0 else s.outLen
      errCode := t.errCode
      err := true
      done := true
      busy := false }

/-- What a command does, faults among it, does not depend on how the one before it ended (R304). -/
def Obligations.CommandsIgnoreEarlierOutcomes : Prop :=
  ∀ (i : Instr) (s : State) (e : ErrCode) (b d : Bool),
    exec i { s with errCode := e, err := b, done := d } = exec i s

/-- Every address a successful DECODE forms is in range (R233): the bytes it needs are below IN_LEN and in IBUF, the pixels it
writes are in OBUF. -/
def Obligations.DecodeStaysInTheBuffers : Prop :=
  ∀ s t : State, s.Inv → exec .decode s = .next t → t.err = false →
    (if s.fmtCtrl.getLsbD 0 then
        (s.fmtGeom.extractLsb' 0 16).toNat * (s.fmtGeom.extractLsb' 16 16).toNat / 8
      else (s.fmtGeom.extractLsb' 0 16).toNat * (s.fmtGeom.extractLsb' 16 16).toNat / 2) ≤ s.inLen.toNat ∧
    s.inLen.toNat ≤ s.params.ibufSize ∧
    (∀ p x y, p < 4 → x < (s.fmtGeom.extractLsb' 0 16).toNat → y < (s.fmtGeom.extractLsb' 16 16).toNat →
      s.fmtCtrl.getLsbD 0 = false → planeAddr (s.fmtGeom.extractLsb' 0 16).toNat p x y < s.inLen.toNat) ∧
    (∀ x y, x < (s.fmtGeom.extractLsb' 0 16).toNat → y < (s.fmtGeom.extractLsb' 16 16).toNat →
      s.fmtCtrl.getLsbD 0 = true → glyphAddr (s.fmtGeom.extractLsb' 0 16).toNat x y < s.inLen.toNat) ∧
    ∀ a, t.mem.read a ≠ s.mem.read a → obufBase ≤ a ∧ a < obufBase + s.params.obufSize

/-- A selected user descriptor is latched (R88): no command but SELFMT 15 depends on UFMT_GEOM or UFMT_CTRL. -/
def Obligations.UserDescriptorIsLatched : Prop :=
  ∀ (i : Instr) (s t : State) (g c : Word), i ≠ .selfmt 15 → exec i s = .next t →
    exec i { s with ufmtGeom := g, ufmtCtrl := c } = .next { t with ufmtGeom := g, ufmtCtrl := c }

/-- Under the invariant a step's fault is one of R314: a bus error or an access while busy in a host turn, or an Engine read of
an unwritten IBUF byte; the model's own fault (log 11) does not happen. -/
def Obligations.FaultsAreThoseOfTheSpec : Prop :=
  ∀ (s : State) (f : Fault), s.Inv → step s = .fault f →
    (s.nextTurn = .host ∧ ∃ a n, f = .hostBusError a n) ∨
    (s.nextTurn = .host ∧ s.busy = true ∧ ∃ a, f = .hostAccessWhileBusy a) ∨
    (s.nextTurn = .engine ∧ s.busy = true ∧ ∃ x, f = .uninitInput x ∧ s.mem.read x = none)

/-- In a configuration R10 allows, SELFMT of a valid ROM entry always selects it. -/
def Obligations.ValidRomFormatsSelect : Prop :=
  ∀ (s : State) (fid : FormatId) (h : fid.toNat < 15), legalParams s.params = true →
    s.params.formatRom[fid.toNat].ctrl.getLsbD 31 = true →
    ∃ t, exec (.selfmt fid) s = .next t ∧ t.errCode = .ok ∧ t.fmtValid = true ∧ t.fmtId = fid ∧
      t.fmtGeom = s.params.formatRom[fid.toNat].geom

/-- The default FORMAT_ROM of R221 is legal by R10 whatever the four bank indices, and its valid entries are format IDs 0 to
8. -/
def Obligations.DefaultRomIsLegalForEveryBankIndex : Prop :=
  ∀ full panel sprites strip : Byte,
    legalParams { defaultParams with formatRom := defaultFormatRom full panel sprites strip } = true ∧
    ∀ f : Fin 15, (defaultFormatRom full panel sprites strip)[f].ctrl.getLsbD 31 = decide (f.val ≤ 8)

/-! ## The host bus -/

/-- A byte of the address map of R72. -/
def mappedByte (p : Params) (a : Nat) : Prop :=
  a < 0x00004C ∨ (0x000400 ≤ a ∧ a < 0x000800) ∨ (0x000800 ≤ a ∧ a < 0x000800 + p.bankMax * 64) ∨
  (0x000C00 ≤ a ∧ a < 0x000CC0) ∨ (0x000D00 ≤ a ∧ a < 0x000D80) ∨
  (0x020000 ≤ a ∧ a < 0x020000 + p.ibufSize) ∨ (0x040000 ≤ a ∧ a < 0x040000 + p.obufSize)

/-- A place R72 lets only 4-byte accesses reach. -/
def wordOnlyByte (a : Nat) : Prop := a < 0x000C00 ∨ (0x000D00 ≤ a ∧ a < 0x000D80)

/-- The conditions of R73 for a bus error. -/
def busErrorAt (p : Params) (n : Width) (a : Nat) : Prop :=
  (∃ k, k < n.bytes ∧ ¬ mappedByte p (a + k)) ∨ a % n.bytes ≠ 0 ∨ (wordOnlyByte a ∧ n ≠ .word)

/-- An access ends with a bus error exactly under the conditions of R73. This holds while BUSY = 1 too: that an access which is also
forbidden then ends as the bus error is the model's choice (log 9). -/
def Obligations.BusErrorsAreThoseOfTheMap : Prop :=
  ∀ (s : State) (n : Width) (a : Addr) (v : Word), legalParams s.params = true →
    (hostRead n a s = .fault (.hostBusError a.toNat n.bytes) ↔ busErrorAt s.params n a.toNat) ∧
    (hostWrite n a v s = .fault (.hostBusError a.toNat n.bytes) ↔ busErrorAt s.params n a.toNat)

/-- While BUSY = 1 the host may read ID, CMD, STATUS, ERRCODE, CTRL, the CFG registers, BROM and FROM, and write CMD, STATUS and
CTRL; any other access that is no bus error is the fault HostAccessWhileBusy (R407). That a write to a read-only register or
window is among the others, and not ignored, is an inference from R407 (log 10). -/
def Obligations.BusyAllowsOnlyTheListedAccesses : Prop :=
  ∀ (s : State) (n : Width) (a : Addr) (v : Word), legalParams s.params = true → s.busy = true →
    ¬ busErrorAt s.params n a.toNat →
    ((a.toNat ∈ [0x00, 0x04, 0x08, 0x0C, 0x10, 0x40, 0x44, 0x48] ∨
        (0x000C00 ≤ a.toNat ∧ a.toNat < 0x000D80)) → ∃ t, hostRead n a s = .next t) ∧
    (¬ (a.toNat ∈ [0x00, 0x04, 0x08, 0x0C, 0x10, 0x40, 0x44, 0x48] ∨
        (0x000C00 ≤ a.toNat ∧ a.toNat < 0x000D80)) → hostRead n a s = .fault (.hostAccessWhileBusy a.toNat)) ∧
    (a.toNat ∈ [0x04, 0x08, 0x10] → ∃ t, hostWrite n a v s = .next t) ∧
    (a.toNat ∉ [0x04, 0x08, 0x10] → hostWrite n a v s = .fault (.hostAccessWhileBusy a.toNat))

/-- A read that completes changes nothing but the data the bus returns, and the same read again returns the same (R83). For a byte
or a slot that returns any value, that the two reads agree rests on the index of the free values not advancing on a read, an
inference from R83 (log 6). -/
def Obligations.ReadsHaveNoSideEffectsAndRepeat : Prop :=
  ∀ (n : Width) (a : Addr) (s t : State), hostRead n a s = .next t →
    t = { s with busData := t.busData } ∧ hostRead n a t = .next t

/-- A write to IBUF or OBUF (R71, R74, R75) stores the low n bytes of v, least significant first, and changes nothing else of the
block; the index of the free values is the model's (log 6). -/
def Obligations.BufferWriteStoresItsBytes : Prop :=
  ∀ (s : State) (n : Width) (a : Addr) (v : Word), legalParams s.params = true → s.busy = false →
    ¬ busErrorAt s.params n a.toNat → 0x020000 ≤ a.toNat →
    ∃ t, hostWrite n a v s = .next t ∧ t = { s with mem := t.mem, freeIndex := s.freeIndex + 1 } ∧
      (∀ k, k < n.bytes → t.mem.read (a.toNat + k) = some (v.extractLsb' (8 * k) 8)) ∧
      ∀ x, ¬ (a.toNat ≤ x ∧ x < a.toNat + n.bytes) → t.mem.read x = s.mem.read x

/-- A read of IBUF or OBUF (R71, R74, R75, R85, R234), of any width and whatever wrote the bytes, a DECODE or host writes of other
widths, returns the word whose byte k is the k-th byte and whose higher bits are 0; and a read after a write of the same width
and address returns the bits written. -/
def Obligations.BufferReadReturnsWhatWasWritten : Prop :=
  (∀ (s : State) (n : Width) (a : Addr) (b : Nat → Byte), legalParams s.params = true → s.busy = false →
    ¬ busErrorAt s.params n a.toNat → 0x020000 ≤ a.toNat →
    (∀ k, k < n.bytes → s.mem.read (a.toNat + k) = some (b k)) →
    ∃ v, hostRead n a s = .next { s with busData := some v } ∧ v.toNat < 2 ^ (8 * n.bytes) ∧
      ∀ k, k < n.bytes → v.extractLsb' (8 * k) 8 = b k) ∧
  ∀ (s t : State) (n : Width) (a : Addr) (v : Word), legalParams s.params = true → s.busy = false →
    0x020000 ≤ a.toNat → hostWrite n a v s = .next t →
    hostRead n a t = .next { t with busData := some (BitVec.ofNat 32 (v.toNat % 2 ^ (8 * n.bytes))) }

/-- A write to a read-only register or window while BUSY = 0 is ignored (R53); the index of the free values is the model's
(log 6). -/
def Obligations.ReadOnlyWritesAreIgnored : Prop :=
  ∀ (s : State) (n : Width) (a : Addr) (v : Word), legalParams s.params = true → s.busy = false →
    ¬ busErrorAt s.params n a.toNat → a.toNat < 0x020000 →
    a.toNat ∉ [0x04, 0x08, 0x10, 0x14, 0x2C, 0x30, 0x34] →
    hostWrite n a v s = .next { s with freeIndex := s.freeIndex + 1 }

/-- STATUS (R23): the bits of the word read, and the write that clears DONE and OVR by ones in bits 3 and 4 and ignores every
other bit, busy or not; the index of the free values is the model's (log 6). -/
def Obligations.StatusReadsAndClears : Prop :=
  ∀ (s : State) (w : Word),
    (∃ v, hostRead .word 0x000008 s = .next { s with busData := some v } ∧
      v.getLsbD 0 = s.busy ∧ v.getLsbD 1 = s.err ∧ v.getLsbD 2 = s.fmtValid ∧ v.getLsbD 3 = s.done ∧
      v.getLsbD 4 = s.ovr ∧ v.extractLsb' 5 3 = s.palSrc.code ∧ v.extractLsb' 8 24 = 0) ∧
    hostWrite .word 0x000008 w s = .next { s with
      done := if w.getLsbD 3 then false else s.done
      ovr := if w.getLsbD 4 then false else s.ovr
      freeIndex := s.freeIndex + 1 }

/-- The read-write registers (R25, R26, R32, R33, R34): IN_LEN, UFMT_GEOM, UFMT_CTRL and DIN store all 32 bits, CTRL bit 0 only;
each reads back what was stored; the index of the free values is the model's (log 6). -/
def Obligations.WritableRegistersStoreAndReadBack : Prop :=
  ∀ (s : State) (w : Word),
    (s.busy = false →
      hostWrite .word 0x000014 w s = .next { s with inLen := w, freeIndex := s.freeIndex + 1 } ∧
      hostWrite .word 0x00002C w s = .next { s with ufmtGeom := w, freeIndex := s.freeIndex + 1 } ∧
      hostWrite .word 0x000030 w s = .next { s with ufmtCtrl := w, freeIndex := s.freeIndex + 1 } ∧
      hostWrite .word 0x000034 w s = .next { s with din := w, freeIndex := s.freeIndex + 1 } ∧
      hostRead .word 0x000014 s = .next { s with busData := some s.inLen } ∧
      hostRead .word 0x00002C s = .next { s with busData := some s.ufmtGeom } ∧
      hostRead .word 0x000030 s = .next { s with busData := some s.ufmtCtrl } ∧
      hostRead .word 0x000034 s = .next { s with busData := some s.din }) ∧
    hostWrite .word 0x000010 w s = .next { s with ie := w.getLsbD 0, freeIndex := s.freeIndex + 1 } ∧
    hostRead .word 0x000010 s = .next { s with busData := some (if s.ie then 1 else 0) }

/-- What the read-only registers read (R21, R22, R24, R27 to R31, R35 to R39). -/
def Obligations.ReadOnlyRegistersReadTheirState : Prop :=
  ∀ s : State,
    hostRead .word 0x000000 s = .next { s with busData := some 0x53505801 } ∧
    hostRead .word 0x000004 s = .next { s with busData := some s.cmd } ∧
    hostRead .word 0x00000C s = .next { s with busData := some (s.errCode.code.setWidth 32) } ∧
    hostRead .word 0x000040 s = .next { s with busData := some (BitVec.ofNat 32 s.params.ibufSize) } ∧
    hostRead .word 0x000044 s = .next { s with busData := some (BitVec.ofNat 32 s.params.obufSize) } ∧
    hostRead .word 0x000048 s = .next { s with busData := some (BitVec.ofNat 32 s.params.bankMax) } ∧
    (s.busy = false →
      hostRead .word 0x000018 s = .next { s with busData := some s.outLen } ∧
      hostRead .word 0x00001C s = .next { s with busData := some s.bankLen } ∧
      hostRead .word 0x000020 s = .next { s with busData := some (s.fmtId.setWidth 32) } ∧
      hostRead .word 0x000024 s = .next { s with busData := some s.fmtGeom } ∧
      hostRead .word 0x000028 s = .next { s with busData := some (BitVec.ofBool s.fmtValid ++ s.fmtCtrl) } ∧
      hostRead .word 0x000038 s = .next { s with busData := some s.doutLo } ∧
      hostRead .word 0x00003C s = .next { s with busData := some s.doutHi })

/-- The PALX window (R77, R145, R147): word k is the RGB word of entry k of PAL, and of entry 15 for k = 16 to 255. -/
def Obligations.PalxWindowShowsThePalette : Prop :=
  ∀ (s : State) (k : Nat), s.busy = false → k < 256 →
    hostRead .word (BitVec.ofNat 24 (0x000400 + 4 * k)) s = .next { s with
      busData := some ((0 : Byte) ++ (s.pal[min k 15]'(by omega)).r ++ (s.pal[min k 15]'(by omega)).g
        ++ (s.pal[min k 15]'(by omega)).b) }

/-- The PBANK window below BANK_LEN (R78): the word of entry i of slot j is the RGB word of its colour. -/
def Obligations.PbankWindowShowsTheLoadedBank : Prop :=
  ∀ (s : State) (j i : Fin 16) (p : Palette), legalParams s.params = true → s.busy = false →
    j.val < s.bankLen.toNat → s.bankLen.toNat ≤ s.params.bankMax → s.pbank[j] = some p →
    hostRead .word (BitVec.ofNat 24 (0x000800 + 64 * j + 4 * i)) s = .next { s with
      busData := some ((0 : Byte) ++ p[i].r ++ p[i].g ++ p[i].b) }

/-- The ROM windows (R79, R80), busy or not: byte a of built-in k, and the words of each FORMAT_ROM entry, 0 for format ID 15. -/
def Obligations.RomWindowsShowTheRoms : Prop :=
  ∀ s : State, legalParams s.params = true →
    (∀ (n : Width) (o : Nat), o + n.bytes ≤ 192 → o % n.bytes = 0 →
      ∃ v, hostRead n (BitVec.ofNat 24 (0x000C00 + o)) s = .next { s with busData := some v } ∧
        ∀ k, k < n.bytes → v.extractLsb' (8 * k) 8 = Config.builtinRom (o + k)) ∧
    (∀ f : Fin 15,
      hostRead .word (BitVec.ofNat 24 (0x000D00 + 8 * f)) s =
        .next { s with busData := some s.params.formatRom[f].geom } ∧
      hostRead .word (BitVec.ofNat 24 (0x000D04 + 8 * f)) s =
        .next { s with busData := some s.params.formatRom[f].ctrl }) ∧
    hostRead .word 0x000D78 s = .next { s with busData := some 0 } ∧
    hostRead .word 0x000D7C s = .next { s with busData := some 0 }
end

