-- ==== Sys2Proof/Laws/State.lean ====
section
/-! SUPPORT. One lemma per field per update of the state, so that no later proof unfolds a record update. -/

namespace Sys2Proof.Machine

/-! `State.complete` (60_exceptions.md R302). -/

@[simp] theorem State.complete_cmd (s : State) : (s.complete).cmd = s.cmd := rfl
@[simp] theorem State.complete_busy (s : State) : (s.complete).busy = false := rfl
@[simp] theorem State.complete_err (s : State) : (s.complete).err = false := rfl
@[simp] theorem State.complete_fmtValid (s : State) : (s.complete).fmtValid = s.fmtValid := rfl
@[simp] theorem State.complete_done (s : State) : (s.complete).done = true := rfl
@[simp] theorem State.complete_ovr (s : State) : (s.complete).ovr = s.ovr := rfl
@[simp] theorem State.complete_palSrc (s : State) : (s.complete).palSrc = s.palSrc := rfl
@[simp] theorem State.complete_errCode (s : State) : (s.complete).errCode = .ok := rfl
@[simp] theorem State.complete_ie (s : State) : (s.complete).ie = s.ie := rfl
@[simp] theorem State.complete_inLen (s : State) : (s.complete).inLen = s.inLen := rfl
@[simp] theorem State.complete_outLen (s : State) : (s.complete).outLen = s.outLen := rfl
@[simp] theorem State.complete_bankLen (s : State) : (s.complete).bankLen = s.bankLen := rfl
@[simp] theorem State.complete_fmtId (s : State) : (s.complete).fmtId = s.fmtId := rfl
@[simp] theorem State.complete_fmtGeom (s : State) : (s.complete).fmtGeom = s.fmtGeom := rfl
@[simp] theorem State.complete_fmtCtrl (s : State) : (s.complete).fmtCtrl = s.fmtCtrl := rfl
@[simp] theorem State.complete_ufmtGeom (s : State) : (s.complete).ufmtGeom = s.ufmtGeom := rfl
@[simp] theorem State.complete_ufmtCtrl (s : State) : (s.complete).ufmtCtrl = s.ufmtCtrl := rfl
@[simp] theorem State.complete_din (s : State) : (s.complete).din = s.din := rfl
@[simp] theorem State.complete_doutLo (s : State) : (s.complete).doutLo = s.doutLo := rfl
@[simp] theorem State.complete_doutHi (s : State) : (s.complete).doutHi = s.doutHi := rfl
@[simp] theorem State.complete_pal (s : State) : (s.complete).pal = s.pal := rfl
@[simp] theorem State.complete_pbank (s : State) : (s.complete).pbank = s.pbank := rfl
@[simp] theorem State.complete_mem (s : State) : (s.complete).mem = s.mem := rfl
@[simp] theorem State.complete_params (s : State) : (s.complete).params = s.params := rfl
@[simp] theorem State.complete_program (s : State) : (s.complete).program = s.program := rfl
@[simp] theorem State.complete_schedule (s : State) : (s.complete).schedule = s.schedule := rfl
@[simp] theorem State.complete_busData (s : State) : (s.complete).busData = s.busData := rfl
@[simp] theorem State.complete_freeIndex (s : State) : (s.complete).freeIndex = s.freeIndex := rfl

/-! `State.raise` (60_exceptions.md R303). -/

@[simp] theorem State.raise_cmd (s : State) (e : ErrCode) : (s.raise e).cmd = s.cmd := rfl
@[simp] theorem State.raise_busy (s : State) (e : ErrCode) : (s.raise e).busy = false := rfl
@[simp] theorem State.raise_err (s : State) (e : ErrCode) : (s.raise e).err = true := rfl
@[simp] theorem State.raise_fmtValid (s : State) (e : ErrCode) : (s.raise e).fmtValid = s.fmtValid := rfl
@[simp] theorem State.raise_done (s : State) (e : ErrCode) : (s.raise e).done = true := rfl
@[simp] theorem State.raise_ovr (s : State) (e : ErrCode) : (s.raise e).ovr = s.ovr := rfl
@[simp] theorem State.raise_palSrc (s : State) (e : ErrCode) : (s.raise e).palSrc = s.palSrc := rfl
@[simp] theorem State.raise_errCode (s : State) (e : ErrCode) : (s.raise e).errCode = e := rfl
@[simp] theorem State.raise_ie (s : State) (e : ErrCode) : (s.raise e).ie = s.ie := rfl
@[simp] theorem State.raise_inLen (s : State) (e : ErrCode) : (s.raise e).inLen = s.inLen := rfl
@[simp] theorem State.raise_outLen (s : State) (e : ErrCode) : (s.raise e).outLen = s.outLen := rfl
@[simp] theorem State.raise_bankLen (s : State) (e : ErrCode) : (s.raise e).bankLen = s.bankLen := rfl
@[simp] theorem State.raise_fmtId (s : State) (e : ErrCode) : (s.raise e).fmtId = s.fmtId := rfl
@[simp] theorem State.raise_fmtGeom (s : State) (e : ErrCode) : (s.raise e).fmtGeom = s.fmtGeom := rfl
@[simp] theorem State.raise_fmtCtrl (s : State) (e : ErrCode) : (s.raise e).fmtCtrl = s.fmtCtrl := rfl
@[simp] theorem State.raise_ufmtGeom (s : State) (e : ErrCode) : (s.raise e).ufmtGeom = s.ufmtGeom := rfl
@[simp] theorem State.raise_ufmtCtrl (s : State) (e : ErrCode) : (s.raise e).ufmtCtrl = s.ufmtCtrl := rfl
@[simp] theorem State.raise_din (s : State) (e : ErrCode) : (s.raise e).din = s.din := rfl
@[simp] theorem State.raise_doutLo (s : State) (e : ErrCode) : (s.raise e).doutLo = s.doutLo := rfl
@[simp] theorem State.raise_doutHi (s : State) (e : ErrCode) : (s.raise e).doutHi = s.doutHi := rfl
@[simp] theorem State.raise_pal (s : State) (e : ErrCode) : (s.raise e).pal = s.pal := rfl
@[simp] theorem State.raise_pbank (s : State) (e : ErrCode) : (s.raise e).pbank = s.pbank := rfl
@[simp] theorem State.raise_mem (s : State) (e : ErrCode) : (s.raise e).mem = s.mem := rfl
@[simp] theorem State.raise_params (s : State) (e : ErrCode) : (s.raise e).params = s.params := rfl
@[simp] theorem State.raise_program (s : State) (e : ErrCode) : (s.raise e).program = s.program := rfl
@[simp] theorem State.raise_schedule (s : State) (e : ErrCode) : (s.raise e).schedule = s.schedule := rfl
@[simp] theorem State.raise_busData (s : State) (e : ErrCode) : (s.raise e).busData = s.busData := rfl
@[simp] theorem State.raise_freeIndex (s : State) (e : ErrCode) : (s.raise e).freeIndex = s.freeIndex := rfl

/-! `State.raiseNoBank` (40_palette_table.md R140). -/

@[simp] theorem State.raiseNoBank_cmd (s : State) (e : ErrCode) : (s.raiseNoBank e).cmd = s.cmd := rfl
@[simp] theorem State.raiseNoBank_busy (s : State) (e : ErrCode) : (s.raiseNoBank e).busy = false := rfl
@[simp] theorem State.raiseNoBank_err (s : State) (e : ErrCode) : (s.raiseNoBank e).err = true := rfl
@[simp] theorem State.raiseNoBank_fmtValid (s : State) (e : ErrCode) : (s.raiseNoBank e).fmtValid = s.fmtValid := rfl
@[simp] theorem State.raiseNoBank_done (s : State) (e : ErrCode) : (s.raiseNoBank e).done = true := rfl
@[simp] theorem State.raiseNoBank_ovr (s : State) (e : ErrCode) : (s.raiseNoBank e).ovr = s.ovr := rfl
@[simp] theorem State.raiseNoBank_palSrc (s : State) (e : ErrCode) : (s.raiseNoBank e).palSrc = s.palSrc := rfl
@[simp] theorem State.raiseNoBank_errCode (s : State) (e : ErrCode) : (s.raiseNoBank e).errCode = e := rfl
@[simp] theorem State.raiseNoBank_ie (s : State) (e : ErrCode) : (s.raiseNoBank e).ie = s.ie := rfl
@[simp] theorem State.raiseNoBank_inLen (s : State) (e : ErrCode) : (s.raiseNoBank e).inLen = s.inLen := rfl
@[simp] theorem State.raiseNoBank_outLen (s : State) (e : ErrCode) : (s.raiseNoBank e).outLen = s.outLen := rfl
@[simp] theorem State.raiseNoBank_bankLen (s : State) (e : ErrCode) : (s.raiseNoBank e).bankLen = 0 := rfl
@[simp] theorem State.raiseNoBank_fmtId (s : State) (e : ErrCode) : (s.raiseNoBank e).fmtId = s.fmtId := rfl
@[simp] theorem State.raiseNoBank_fmtGeom (s : State) (e : ErrCode) : (s.raiseNoBank e).fmtGeom = s.fmtGeom := rfl
@[simp] theorem State.raiseNoBank_fmtCtrl (s : State) (e : ErrCode) : (s.raiseNoBank e).fmtCtrl = s.fmtCtrl := rfl
@[simp] theorem State.raiseNoBank_ufmtGeom (s : State) (e : ErrCode) : (s.raiseNoBank e).ufmtGeom = s.ufmtGeom := rfl
@[simp] theorem State.raiseNoBank_ufmtCtrl (s : State) (e : ErrCode) : (s.raiseNoBank e).ufmtCtrl = s.ufmtCtrl := rfl
@[simp] theorem State.raiseNoBank_din (s : State) (e : ErrCode) : (s.raiseNoBank e).din = s.din := rfl
@[simp] theorem State.raiseNoBank_doutLo (s : State) (e : ErrCode) : (s.raiseNoBank e).doutLo = s.doutLo := rfl
@[simp] theorem State.raiseNoBank_doutHi (s : State) (e : ErrCode) : (s.raiseNoBank e).doutHi = s.doutHi := rfl
@[simp] theorem State.raiseNoBank_pal (s : State) (e : ErrCode) : (s.raiseNoBank e).pal = s.pal := rfl
@[simp] theorem State.raiseNoBank_pbank (s : State) (e : ErrCode) : (s.raiseNoBank e).pbank = s.pbank := rfl
@[simp] theorem State.raiseNoBank_mem (s : State) (e : ErrCode) : (s.raiseNoBank e).mem = s.mem := rfl
@[simp] theorem State.raiseNoBank_params (s : State) (e : ErrCode) : (s.raiseNoBank e).params = s.params := rfl
@[simp] theorem State.raiseNoBank_program (s : State) (e : ErrCode) : (s.raiseNoBank e).program = s.program := rfl
@[simp] theorem State.raiseNoBank_schedule (s : State) (e : ErrCode) : (s.raiseNoBank e).schedule = s.schedule := rfl
@[simp] theorem State.raiseNoBank_busData (s : State) (e : ErrCode) : (s.raiseNoBank e).busData = s.busData := rfl
@[simp] theorem State.raiseNoBank_freeIndex (s : State) (e : ErrCode) : (s.raiseNoBank e).freeIndex = s.freeIndex := rfl

/-! `State.raiseNoFormat` (44_dispatch.md R225). -/

@[simp] theorem State.raiseNoFormat_cmd (s : State) (e : ErrCode) : (s.raiseNoFormat e).cmd = s.cmd := rfl
@[simp] theorem State.raiseNoFormat_busy (s : State) (e : ErrCode) : (s.raiseNoFormat e).busy = false := rfl
@[simp] theorem State.raiseNoFormat_err (s : State) (e : ErrCode) : (s.raiseNoFormat e).err = true := rfl
@[simp] theorem State.raiseNoFormat_fmtValid (s : State) (e : ErrCode) : (s.raiseNoFormat e).fmtValid = false := rfl
@[simp] theorem State.raiseNoFormat_done (s : State) (e : ErrCode) : (s.raiseNoFormat e).done = true := rfl
@[simp] theorem State.raiseNoFormat_ovr (s : State) (e : ErrCode) : (s.raiseNoFormat e).ovr = s.ovr := rfl
@[simp] theorem State.raiseNoFormat_palSrc (s : State) (e : ErrCode) : (s.raiseNoFormat e).palSrc = s.palSrc := rfl
@[simp] theorem State.raiseNoFormat_errCode (s : State) (e : ErrCode) : (s.raiseNoFormat e).errCode = e := rfl
@[simp] theorem State.raiseNoFormat_ie (s : State) (e : ErrCode) : (s.raiseNoFormat e).ie = s.ie := rfl
@[simp] theorem State.raiseNoFormat_inLen (s : State) (e : ErrCode) : (s.raiseNoFormat e).inLen = s.inLen := rfl
@[simp] theorem State.raiseNoFormat_outLen (s : State) (e : ErrCode) : (s.raiseNoFormat e).outLen = s.outLen := rfl
@[simp] theorem State.raiseNoFormat_bankLen (s : State) (e : ErrCode) : (s.raiseNoFormat e).bankLen = s.bankLen := rfl
@[simp] theorem State.raiseNoFormat_fmtId (s : State) (e : ErrCode) : (s.raiseNoFormat e).fmtId = s.fmtId := rfl
@[simp] theorem State.raiseNoFormat_fmtGeom (s : State) (e : ErrCode) : (s.raiseNoFormat e).fmtGeom = s.fmtGeom := rfl
@[simp] theorem State.raiseNoFormat_fmtCtrl (s : State) (e : ErrCode) : (s.raiseNoFormat e).fmtCtrl = s.fmtCtrl := rfl
@[simp] theorem State.raiseNoFormat_ufmtGeom (s : State) (e : ErrCode) : (s.raiseNoFormat e).ufmtGeom = s.ufmtGeom := rfl
@[simp] theorem State.raiseNoFormat_ufmtCtrl (s : State) (e : ErrCode) : (s.raiseNoFormat e).ufmtCtrl = s.ufmtCtrl := rfl
@[simp] theorem State.raiseNoFormat_din (s : State) (e : ErrCode) : (s.raiseNoFormat e).din = s.din := rfl
@[simp] theorem State.raiseNoFormat_doutLo (s : State) (e : ErrCode) : (s.raiseNoFormat e).doutLo = s.doutLo := rfl
@[simp] theorem State.raiseNoFormat_doutHi (s : State) (e : ErrCode) : (s.raiseNoFormat e).doutHi = s.doutHi := rfl
@[simp] theorem State.raiseNoFormat_pal (s : State) (e : ErrCode) : (s.raiseNoFormat e).pal = s.pal := rfl
@[simp] theorem State.raiseNoFormat_pbank (s : State) (e : ErrCode) : (s.raiseNoFormat e).pbank = s.pbank := rfl
@[simp] theorem State.raiseNoFormat_mem (s : State) (e : ErrCode) : (s.raiseNoFormat e).mem = s.mem := rfl
@[simp] theorem State.raiseNoFormat_params (s : State) (e : ErrCode) : (s.raiseNoFormat e).params = s.params := rfl
@[simp] theorem State.raiseNoFormat_program (s : State) (e : ErrCode) : (s.raiseNoFormat e).program = s.program := rfl
@[simp] theorem State.raiseNoFormat_schedule (s : State) (e : ErrCode) : (s.raiseNoFormat e).schedule = s.schedule := rfl
@[simp] theorem State.raiseNoFormat_busData (s : State) (e : ErrCode) : (s.raiseNoFormat e).busData = s.busData := rfl
@[simp] theorem State.raiseNoFormat_freeIndex (s : State) (e : ErrCode) : (s.raiseNoFormat e).freeIndex = s.freeIndex := rfl

/-! `State.raiseNoOutput` (44_dispatch.md R230). -/

@[simp] theorem State.raiseNoOutput_cmd (s : State) (e : ErrCode) : (s.raiseNoOutput e).cmd = s.cmd := rfl
@[simp] theorem State.raiseNoOutput_busy (s : State) (e : ErrCode) : (s.raiseNoOutput e).busy = false := rfl
@[simp] theorem State.raiseNoOutput_err (s : State) (e : ErrCode) : (s.raiseNoOutput e).err = true := rfl
@[simp] theorem State.raiseNoOutput_fmtValid (s : State) (e : ErrCode) : (s.raiseNoOutput e).fmtValid = s.fmtValid := rfl
@[simp] theorem State.raiseNoOutput_done (s : State) (e : ErrCode) : (s.raiseNoOutput e).done = true := rfl
@[simp] theorem State.raiseNoOutput_ovr (s : State) (e : ErrCode) : (s.raiseNoOutput e).ovr = s.ovr := rfl
@[simp] theorem State.raiseNoOutput_palSrc (s : State) (e : ErrCode) : (s.raiseNoOutput e).palSrc = s.palSrc := rfl
@[simp] theorem State.raiseNoOutput_errCode (s : State) (e : ErrCode) : (s.raiseNoOutput e).errCode = e := rfl
@[simp] theorem State.raiseNoOutput_ie (s : State) (e : ErrCode) : (s.raiseNoOutput e).ie = s.ie := rfl
@[simp] theorem State.raiseNoOutput_inLen (s : State) (e : ErrCode) : (s.raiseNoOutput e).inLen = s.inLen := rfl
@[simp] theorem State.raiseNoOutput_outLen (s : State) (e : ErrCode) : (s.raiseNoOutput e).outLen = 0 := rfl
@[simp] theorem State.raiseNoOutput_bankLen (s : State) (e : ErrCode) : (s.raiseNoOutput e).bankLen = s.bankLen := rfl
@[simp] theorem State.raiseNoOutput_fmtId (s : State) (e : ErrCode) : (s.raiseNoOutput e).fmtId = s.fmtId := rfl
@[simp] theorem State.raiseNoOutput_fmtGeom (s : State) (e : ErrCode) : (s.raiseNoOutput e).fmtGeom = s.fmtGeom := rfl
@[simp] theorem State.raiseNoOutput_fmtCtrl (s : State) (e : ErrCode) : (s.raiseNoOutput e).fmtCtrl = s.fmtCtrl := rfl
@[simp] theorem State.raiseNoOutput_ufmtGeom (s : State) (e : ErrCode) : (s.raiseNoOutput e).ufmtGeom = s.ufmtGeom := rfl
@[simp] theorem State.raiseNoOutput_ufmtCtrl (s : State) (e : ErrCode) : (s.raiseNoOutput e).ufmtCtrl = s.ufmtCtrl := rfl
@[simp] theorem State.raiseNoOutput_din (s : State) (e : ErrCode) : (s.raiseNoOutput e).din = s.din := rfl
@[simp] theorem State.raiseNoOutput_doutLo (s : State) (e : ErrCode) : (s.raiseNoOutput e).doutLo = s.doutLo := rfl
@[simp] theorem State.raiseNoOutput_doutHi (s : State) (e : ErrCode) : (s.raiseNoOutput e).doutHi = s.doutHi := rfl
@[simp] theorem State.raiseNoOutput_pal (s : State) (e : ErrCode) : (s.raiseNoOutput e).pal = s.pal := rfl
@[simp] theorem State.raiseNoOutput_pbank (s : State) (e : ErrCode) : (s.raiseNoOutput e).pbank = s.pbank := rfl
@[simp] theorem State.raiseNoOutput_mem (s : State) (e : ErrCode) : (s.raiseNoOutput e).mem = s.mem := rfl
@[simp] theorem State.raiseNoOutput_params (s : State) (e : ErrCode) : (s.raiseNoOutput e).params = s.params := rfl
@[simp] theorem State.raiseNoOutput_program (s : State) (e : ErrCode) : (s.raiseNoOutput e).program = s.program := rfl
@[simp] theorem State.raiseNoOutput_schedule (s : State) (e : ErrCode) : (s.raiseNoOutput e).schedule = s.schedule := rfl
@[simp] theorem State.raiseNoOutput_busData (s : State) (e : ErrCode) : (s.raiseNoOutput e).busData = s.busData := rfl
@[simp] theorem State.raiseNoOutput_freeIndex (s : State) (e : ErrCode) : (s.raiseNoOutput e).freeIndex = s.freeIndex := rfl

/-! `State.writeObuf` (44_dispatch.md R230). -/

@[simp] theorem State.writeObuf_cmd (s : State) (out : List Byte) : (s.writeObuf out).cmd = s.cmd := rfl
@[simp] theorem State.writeObuf_busy (s : State) (out : List Byte) : (s.writeObuf out).busy = s.busy := rfl
@[simp] theorem State.writeObuf_err (s : State) (out : List Byte) : (s.writeObuf out).err = s.err := rfl
@[simp] theorem State.writeObuf_fmtValid (s : State) (out : List Byte) : (s.writeObuf out).fmtValid = s.fmtValid := rfl
@[simp] theorem State.writeObuf_done (s : State) (out : List Byte) : (s.writeObuf out).done = s.done := rfl
@[simp] theorem State.writeObuf_ovr (s : State) (out : List Byte) : (s.writeObuf out).ovr = s.ovr := rfl
@[simp] theorem State.writeObuf_palSrc (s : State) (out : List Byte) : (s.writeObuf out).palSrc = s.palSrc := rfl
@[simp] theorem State.writeObuf_errCode (s : State) (out : List Byte) : (s.writeObuf out).errCode = s.errCode := rfl
@[simp] theorem State.writeObuf_ie (s : State) (out : List Byte) : (s.writeObuf out).ie = s.ie := rfl
@[simp] theorem State.writeObuf_inLen (s : State) (out : List Byte) : (s.writeObuf out).inLen = s.inLen := rfl
@[simp] theorem State.writeObuf_outLen (s : State) (out : List Byte) : (s.writeObuf out).outLen = s.outLen := rfl
@[simp] theorem State.writeObuf_bankLen (s : State) (out : List Byte) : (s.writeObuf out).bankLen = s.bankLen := rfl
@[simp] theorem State.writeObuf_fmtId (s : State) (out : List Byte) : (s.writeObuf out).fmtId = s.fmtId := rfl
@[simp] theorem State.writeObuf_fmtGeom (s : State) (out : List Byte) : (s.writeObuf out).fmtGeom = s.fmtGeom := rfl
@[simp] theorem State.writeObuf_fmtCtrl (s : State) (out : List Byte) : (s.writeObuf out).fmtCtrl = s.fmtCtrl := rfl
@[simp] theorem State.writeObuf_ufmtGeom (s : State) (out : List Byte) : (s.writeObuf out).ufmtGeom = s.ufmtGeom := rfl
@[simp] theorem State.writeObuf_ufmtCtrl (s : State) (out : List Byte) : (s.writeObuf out).ufmtCtrl = s.ufmtCtrl := rfl
@[simp] theorem State.writeObuf_din (s : State) (out : List Byte) : (s.writeObuf out).din = s.din := rfl
@[simp] theorem State.writeObuf_doutLo (s : State) (out : List Byte) : (s.writeObuf out).doutLo = s.doutLo := rfl
@[simp] theorem State.writeObuf_doutHi (s : State) (out : List Byte) : (s.writeObuf out).doutHi = s.doutHi := rfl
@[simp] theorem State.writeObuf_pal (s : State) (out : List Byte) : (s.writeObuf out).pal = s.pal := rfl
@[simp] theorem State.writeObuf_pbank (s : State) (out : List Byte) : (s.writeObuf out).pbank = s.pbank := rfl
@[simp] theorem State.writeObuf_mem (s : State) (out : List Byte) : (s.writeObuf out).mem = s.mem.store obufBase out := rfl
@[simp] theorem State.writeObuf_params (s : State) (out : List Byte) : (s.writeObuf out).params = s.params := rfl
@[simp] theorem State.writeObuf_program (s : State) (out : List Byte) : (s.writeObuf out).program = s.program := rfl
@[simp] theorem State.writeObuf_schedule (s : State) (out : List Byte) : (s.writeObuf out).schedule = s.schedule := rfl
@[simp] theorem State.writeObuf_busData (s : State) (out : List Byte) : (s.writeObuf out).busData = s.busData := rfl
@[simp] theorem State.writeObuf_freeIndex (s : State) (out : List Byte) : (s.writeObuf out).freeIndex = s.freeIndex := rfl

/-! `State.writePixels` (44_dispatch.md R230). -/

@[simp] theorem State.writePixels_cmd (s : State) : (s.writePixels).cmd = s.cmd := rfl
@[simp] theorem State.writePixels_busy (s : State) : (s.writePixels).busy = s.busy := rfl
@[simp] theorem State.writePixels_err (s : State) : (s.writePixels).err = s.err := rfl
@[simp] theorem State.writePixels_fmtValid (s : State) : (s.writePixels).fmtValid = s.fmtValid := rfl
@[simp] theorem State.writePixels_done (s : State) : (s.writePixels).done = s.done := rfl
@[simp] theorem State.writePixels_ovr (s : State) : (s.writePixels).ovr = s.ovr := rfl
@[simp] theorem State.writePixels_palSrc (s : State) : (s.writePixels).palSrc = s.palSrc := rfl
@[simp] theorem State.writePixels_errCode (s : State) : (s.writePixels).errCode = s.errCode := rfl
@[simp] theorem State.writePixels_ie (s : State) : (s.writePixels).ie = s.ie := rfl
@[simp] theorem State.writePixels_inLen (s : State) : (s.writePixels).inLen = s.inLen := rfl
@[simp] theorem State.writePixels_outLen (s : State) : (s.writePixels).outLen = BitVec.ofNat 32 (s.fmtW * s.fmtH) := rfl
@[simp] theorem State.writePixels_bankLen (s : State) : (s.writePixels).bankLen = s.bankLen := rfl
@[simp] theorem State.writePixels_fmtId (s : State) : (s.writePixels).fmtId = s.fmtId := rfl
@[simp] theorem State.writePixels_fmtGeom (s : State) : (s.writePixels).fmtGeom = s.fmtGeom := rfl
@[simp] theorem State.writePixels_fmtCtrl (s : State) : (s.writePixels).fmtCtrl = s.fmtCtrl := rfl
@[simp] theorem State.writePixels_ufmtGeom (s : State) : (s.writePixels).ufmtGeom = s.ufmtGeom := rfl
@[simp] theorem State.writePixels_ufmtCtrl (s : State) : (s.writePixels).ufmtCtrl = s.ufmtCtrl := rfl
@[simp] theorem State.writePixels_din (s : State) : (s.writePixels).din = s.din := rfl
@[simp] theorem State.writePixels_doutLo (s : State) : (s.writePixels).doutLo = s.doutLo := rfl
@[simp] theorem State.writePixels_doutHi (s : State) : (s.writePixels).doutHi = s.doutHi := rfl
@[simp] theorem State.writePixels_pal (s : State) : (s.writePixels).pal = s.pal := rfl
@[simp] theorem State.writePixels_pbank (s : State) : (s.writePixels).pbank = s.pbank := rfl
@[simp] theorem State.writePixels_mem (s : State) : (s.writePixels).mem = s.mem.store obufBase s.decodedPixels := rfl
@[simp] theorem State.writePixels_params (s : State) : (s.writePixels).params = s.params := rfl
@[simp] theorem State.writePixels_program (s : State) : (s.writePixels).program = s.program := rfl
@[simp] theorem State.writePixels_schedule (s : State) : (s.writePixels).schedule = s.schedule := rfl
@[simp] theorem State.writePixels_busData (s : State) : (s.writePixels).busData = s.busData := rfl
@[simp] theorem State.writePixels_freeIndex (s : State) : (s.writePixels).freeIndex = s.freeIndex := rfl

/-! `State.tick` (log 6). -/

@[simp] theorem State.tick_cmd (s : State) : (s.tick).cmd = s.cmd := rfl
@[simp] theorem State.tick_busy (s : State) : (s.tick).busy = s.busy := rfl
@[simp] theorem State.tick_err (s : State) : (s.tick).err = s.err := rfl
@[simp] theorem State.tick_fmtValid (s : State) : (s.tick).fmtValid = s.fmtValid := rfl
@[simp] theorem State.tick_done (s : State) : (s.tick).done = s.done := rfl
@[simp] theorem State.tick_ovr (s : State) : (s.tick).ovr = s.ovr := rfl
@[simp] theorem State.tick_palSrc (s : State) : (s.tick).palSrc = s.palSrc := rfl
@[simp] theorem State.tick_errCode (s : State) : (s.tick).errCode = s.errCode := rfl
@[simp] theorem State.tick_ie (s : State) : (s.tick).ie = s.ie := rfl
@[simp] theorem State.tick_inLen (s : State) : (s.tick).inLen = s.inLen := rfl
@[simp] theorem State.tick_outLen (s : State) : (s.tick).outLen = s.outLen := rfl
@[simp] theorem State.tick_bankLen (s : State) : (s.tick).bankLen = s.bankLen := rfl
@[simp] theorem State.tick_fmtId (s : State) : (s.tick).fmtId = s.fmtId := rfl
@[simp] theorem State.tick_fmtGeom (s : State) : (s.tick).fmtGeom = s.fmtGeom := rfl
@[simp] theorem State.tick_fmtCtrl (s : State) : (s.tick).fmtCtrl = s.fmtCtrl := rfl
@[simp] theorem State.tick_ufmtGeom (s : State) : (s.tick).ufmtGeom = s.ufmtGeom := rfl
@[simp] theorem State.tick_ufmtCtrl (s : State) : (s.tick).ufmtCtrl = s.ufmtCtrl := rfl
@[simp] theorem State.tick_din (s : State) : (s.tick).din = s.din := rfl
@[simp] theorem State.tick_doutLo (s : State) : (s.tick).doutLo = s.doutLo := rfl
@[simp] theorem State.tick_doutHi (s : State) : (s.tick).doutHi = s.doutHi := rfl
@[simp] theorem State.tick_pal (s : State) : (s.tick).pal = s.pal := rfl
@[simp] theorem State.tick_pbank (s : State) : (s.tick).pbank = s.pbank := rfl
@[simp] theorem State.tick_mem (s : State) : (s.tick).mem = s.mem := rfl
@[simp] theorem State.tick_params (s : State) : (s.tick).params = s.params := rfl
@[simp] theorem State.tick_program (s : State) : (s.tick).program = s.program := rfl
@[simp] theorem State.tick_schedule (s : State) : (s.tick).schedule = s.schedule := rfl
@[simp] theorem State.tick_busData (s : State) : (s.tick).busData = s.busData := rfl
@[simp] theorem State.tick_freeIndex (s : State) : (s.tick).freeIndex = s.freeIndex + 1 := rfl

/-! `State.takeTurn` (log 15). -/

@[simp] theorem State.takeTurn_cmd (s : State) : (s.takeTurn).cmd = s.cmd := rfl
@[simp] theorem State.takeTurn_busy (s : State) : (s.takeTurn).busy = s.busy := rfl
@[simp] theorem State.takeTurn_err (s : State) : (s.takeTurn).err = s.err := rfl
@[simp] theorem State.takeTurn_fmtValid (s : State) : (s.takeTurn).fmtValid = s.fmtValid := rfl
@[simp] theorem State.takeTurn_done (s : State) : (s.takeTurn).done = s.done := rfl
@[simp] theorem State.takeTurn_ovr (s : State) : (s.takeTurn).ovr = s.ovr := rfl
@[simp] theorem State.takeTurn_palSrc (s : State) : (s.takeTurn).palSrc = s.palSrc := rfl
@[simp] theorem State.takeTurn_errCode (s : State) : (s.takeTurn).errCode = s.errCode := rfl
@[simp] theorem State.takeTurn_ie (s : State) : (s.takeTurn).ie = s.ie := rfl
@[simp] theorem State.takeTurn_inLen (s : State) : (s.takeTurn).inLen = s.inLen := rfl
@[simp] theorem State.takeTurn_outLen (s : State) : (s.takeTurn).outLen = s.outLen := rfl
@[simp] theorem State.takeTurn_bankLen (s : State) : (s.takeTurn).bankLen = s.bankLen := rfl
@[simp] theorem State.takeTurn_fmtId (s : State) : (s.takeTurn).fmtId = s.fmtId := rfl
@[simp] theorem State.takeTurn_fmtGeom (s : State) : (s.takeTurn).fmtGeom = s.fmtGeom := rfl
@[simp] theorem State.takeTurn_fmtCtrl (s : State) : (s.takeTurn).fmtCtrl = s.fmtCtrl := rfl
@[simp] theorem State.takeTurn_ufmtGeom (s : State) : (s.takeTurn).ufmtGeom = s.ufmtGeom := rfl
@[simp] theorem State.takeTurn_ufmtCtrl (s : State) : (s.takeTurn).ufmtCtrl = s.ufmtCtrl := rfl
@[simp] theorem State.takeTurn_din (s : State) : (s.takeTurn).din = s.din := rfl
@[simp] theorem State.takeTurn_doutLo (s : State) : (s.takeTurn).doutLo = s.doutLo := rfl
@[simp] theorem State.takeTurn_doutHi (s : State) : (s.takeTurn).doutHi = s.doutHi := rfl
@[simp] theorem State.takeTurn_pal (s : State) : (s.takeTurn).pal = s.pal := rfl
@[simp] theorem State.takeTurn_pbank (s : State) : (s.takeTurn).pbank = s.pbank := rfl
@[simp] theorem State.takeTurn_mem (s : State) : (s.takeTurn).mem = s.mem := rfl
@[simp] theorem State.takeTurn_params (s : State) : (s.takeTurn).params = s.params := rfl
@[simp] theorem State.takeTurn_program (s : State) : (s.takeTurn).program = s.program := rfl
@[simp] theorem State.takeTurn_schedule (s : State) : (s.takeTurn).schedule = s.schedule.tail := rfl
@[simp] theorem State.takeTurn_busData (s : State) : (s.takeTurn).busData = none := rfl
@[simp] theorem State.takeTurn_freeIndex (s : State) : (s.takeTurn).freeIndex = s.freeIndex := rfl

/-! `State.engineState`: the state the Engine's step runs on. -/

@[simp] theorem State.engineState_cmd (s : State) : (s.engineState).cmd = s.cmd := rfl
@[simp] theorem State.engineState_busy (s : State) : (s.engineState).busy = s.busy := rfl
@[simp] theorem State.engineState_err (s : State) : (s.engineState).err = s.err := rfl
@[simp] theorem State.engineState_fmtValid (s : State) : (s.engineState).fmtValid = s.fmtValid := rfl
@[simp] theorem State.engineState_done (s : State) : (s.engineState).done = s.done := rfl
@[simp] theorem State.engineState_ovr (s : State) : (s.engineState).ovr = s.ovr := rfl
@[simp] theorem State.engineState_palSrc (s : State) : (s.engineState).palSrc = s.palSrc := rfl
@[simp] theorem State.engineState_errCode (s : State) : (s.engineState).errCode = s.errCode := rfl
@[simp] theorem State.engineState_ie (s : State) : (s.engineState).ie = s.ie := rfl
@[simp] theorem State.engineState_inLen (s : State) : (s.engineState).inLen = s.inLen := rfl
@[simp] theorem State.engineState_outLen (s : State) : (s.engineState).outLen = s.outLen := rfl
@[simp] theorem State.engineState_bankLen (s : State) : (s.engineState).bankLen = s.bankLen := rfl
@[simp] theorem State.engineState_fmtId (s : State) : (s.engineState).fmtId = s.fmtId := rfl
@[simp] theorem State.engineState_fmtGeom (s : State) : (s.engineState).fmtGeom = s.fmtGeom := rfl
@[simp] theorem State.engineState_fmtCtrl (s : State) : (s.engineState).fmtCtrl = s.fmtCtrl := rfl
@[simp] theorem State.engineState_ufmtGeom (s : State) : (s.engineState).ufmtGeom = s.ufmtGeom := rfl
@[simp] theorem State.engineState_ufmtCtrl (s : State) : (s.engineState).ufmtCtrl = s.ufmtCtrl := rfl
@[simp] theorem State.engineState_din (s : State) : (s.engineState).din = s.din := rfl
@[simp] theorem State.engineState_doutLo (s : State) : (s.engineState).doutLo = s.doutLo := rfl
@[simp] theorem State.engineState_doutHi (s : State) : (s.engineState).doutHi = s.doutHi := rfl
@[simp] theorem State.engineState_pal (s : State) : (s.engineState).pal = s.pal := rfl
@[simp] theorem State.engineState_pbank (s : State) : (s.engineState).pbank = s.pbank := rfl
@[simp] theorem State.engineState_mem (s : State) : (s.engineState).mem = s.mem := rfl
@[simp] theorem State.engineState_params (s : State) : (s.engineState).params = s.params := rfl
@[simp] theorem State.engineState_program (s : State) : (s.engineState).program = s.program := rfl
@[simp] theorem State.engineState_schedule (s : State) : (s.engineState).schedule = s.schedule.tail := rfl
@[simp] theorem State.engineState_busData (s : State) : (s.engineState).busData = none := rfl
@[simp] theorem State.engineState_freeIndex (s : State) : (s.engineState).freeIndex = s.freeIndex + 1 := rfl

/-! `State.attachPalette` (41_palette_resolver.md R164, R165) writes PAL and PAL_SRC only. -/

theorem State.attachPalette_eq (s : State) (rule : PaletteRule) :
    s.attachPalette rule = { s with pal := (s.attachPalette rule).pal, palSrc := (s.attachPalette rule).palSrc } := by
  unfold State.attachPalette
  split <;> rfl

@[simp] theorem State.attachPalette_cmd (s : State) (rule : PaletteRule) : (s.attachPalette rule).cmd = s.cmd := by
  rw [State.attachPalette_eq]
@[simp] theorem State.attachPalette_busy (s : State) (rule : PaletteRule) : (s.attachPalette rule).busy = s.busy := by
  rw [State.attachPalette_eq]
@[simp] theorem State.attachPalette_err (s : State) (rule : PaletteRule) : (s.attachPalette rule).err = s.err := by
  rw [State.attachPalette_eq]
@[simp] theorem State.attachPalette_fmtValid (s : State) (rule : PaletteRule) : (s.attachPalette rule).fmtValid = s.fmtValid := by
  rw [State.attachPalette_eq]
@[simp] theorem State.attachPalette_done (s : State) (rule : PaletteRule) : (s.attachPalette rule).done = s.done := by
  rw [State.attachPalette_eq]
@[simp] theorem State.attachPalette_ovr (s : State) (rule : PaletteRule) : (s.attachPalette rule).ovr = s.ovr := by
  rw [State.attachPalette_eq]
@[simp] theorem State.attachPalette_errCode (s : State) (rule : PaletteRule) : (s.attachPalette rule).errCode = s.errCode := by
  rw [State.attachPalette_eq]
@[simp] theorem State.attachPalette_ie (s : State) (rule : PaletteRule) : (s.attachPalette rule).ie = s.ie := by
  rw [State.attachPalette_eq]
@[simp] theorem State.attachPalette_inLen (s : State) (rule : PaletteRule) : (s.attachPalette rule).inLen = s.inLen := by
  rw [State.attachPalette_eq]
@[simp] theorem State.attachPalette_outLen (s : State) (rule : PaletteRule) : (s.attachPalette rule).outLen = s.outLen := by
  rw [State.attachPalette_eq]
@[simp] theorem State.attachPalette_bankLen (s : State) (rule : PaletteRule) : (s.attachPalette rule).bankLen = s.bankLen := by
  rw [State.attachPalette_eq]
@[simp] theorem State.attachPalette_fmtId (s : State) (rule : PaletteRule) : (s.attachPalette rule).fmtId = s.fmtId := by
  rw [State.attachPalette_eq]
@[simp] theorem State.attachPalette_fmtGeom (s : State) (rule : PaletteRule) : (s.attachPalette rule).fmtGeom = s.fmtGeom := by
  rw [State.attachPalette_eq]
@[simp] theorem State.attachPalette_fmtCtrl (s : State) (rule : PaletteRule) : (s.attachPalette rule).fmtCtrl = s.fmtCtrl := by
  rw [State.attachPalette_eq]
@[simp] theorem State.attachPalette_ufmtGeom (s : State) (rule : PaletteRule) : (s.attachPalette rule).ufmtGeom = s.ufmtGeom := by
  rw [State.attachPalette_eq]
@[simp] theorem State.attachPalette_ufmtCtrl (s : State) (rule : PaletteRule) : (s.attachPalette rule).ufmtCtrl = s.ufmtCtrl := by
  rw [State.attachPalette_eq]
@[simp] theorem State.attachPalette_din (s : State) (rule : PaletteRule) : (s.attachPalette rule).din = s.din := by
  rw [State.attachPalette_eq]
@[simp] theorem State.attachPalette_doutLo (s : State) (rule : PaletteRule) : (s.attachPalette rule).doutLo = s.doutLo := by
  rw [State.attachPalette_eq]
@[simp] theorem State.attachPalette_doutHi (s : State) (rule : PaletteRule) : (s.attachPalette rule).doutHi = s.doutHi := by
  rw [State.attachPalette_eq]
@[simp] theorem State.attachPalette_pbank (s : State) (rule : PaletteRule) : (s.attachPalette rule).pbank = s.pbank := by
  rw [State.attachPalette_eq]
@[simp] theorem State.attachPalette_mem (s : State) (rule : PaletteRule) : (s.attachPalette rule).mem = s.mem := by
  rw [State.attachPalette_eq]
@[simp] theorem State.attachPalette_params (s : State) (rule : PaletteRule) : (s.attachPalette rule).params = s.params := by
  rw [State.attachPalette_eq]
@[simp] theorem State.attachPalette_program (s : State) (rule : PaletteRule) : (s.attachPalette rule).program = s.program := by
  rw [State.attachPalette_eq]
@[simp] theorem State.attachPalette_schedule (s : State) (rule : PaletteRule) : (s.attachPalette rule).schedule = s.schedule := by
  rw [State.attachPalette_eq]
@[simp] theorem State.attachPalette_busData (s : State) (rule : PaletteRule) : (s.attachPalette rule).busData = s.busData := by
  rw [State.attachPalette_eq]
@[simp] theorem State.attachPalette_freeIndex (s : State) (rule : PaletteRule) : (s.attachPalette rule).freeIndex = s.freeIndex := by
  rw [State.attachPalette_eq]

theorem State.attachPalette_pal (s : State) (rule : PaletteRule) :
    (s.attachPalette rule).pal = ((s.resolvePal rule).map Prod.fst).getD s.pal := by
  unfold State.attachPalette
  split
  next h => simp [h]
  next h => simp [h]

theorem State.attachPalette_palSrc (s : State) (rule : PaletteRule) :
    (s.attachPalette rule).palSrc = ((s.resolvePal rule).map Prod.snd).getD .noPalette := by
  unfold State.attachPalette
  split
  next h => simp [h]
  next h => simp [h]

end Sys2Proof.Machine
end

