-- ==== Sys2Proof/Laws/Lanes.lean ====
section
/-! SUPPORT. Bits of packed lanes and of pixels. -/

namespace Sys2Proof.Machine

/-- Bit i of packed lanes is bit i mod w of lane i div w. -/
theorem packLanes_getLsbD {w : Nat} (hw : 0 < w) (ls : List Word) (hl : ∀ l ∈ ls, l.toNat < 2 ^ w) (i : Nat)
    (hi : i < 32) : (packLanes w ls).getLsbD i = ((ls[i / w]?).getD 0).getLsbD (i % w) := by
  induction ls generalizing i with
  | nil => simp [packLanes]
  | cons l ls ih =>
    simp only [packLanes, BitVec.getLsbD_or, BitVec.getLsbD_shiftLeft]
    by_cases h : i < w
    · have e1 : i / w = 0 := Nat.div_eq_of_lt h
      have e2 : i % w = i := Nat.mod_eq_of_lt h
      simp [h, e1, e2]
    · have hlt : l.getLsbD i = false := by
        simp only [BitVec.getLsbD]
        apply Nat.testBit_lt_two_pow
        exact Nat.lt_of_lt_of_le (hl l List.mem_cons_self) (Nat.pow_le_pow_right (by omega) (by omega))
      have e1 : i / w = (i - w) / w + 1 := by
        rw [← Nat.add_div_right _ hw]; congr 1; omega
      have e2 : i % w = (i - w) % w := by
        rw [← Nat.add_mod_right (i - w) w]; congr 1; omega
      rw [ih (fun x hx => hl x (List.mem_cons_of_mem _ hx)) (i - w) (by omega), e1, e2]
      rw [hlt]
      simp [hi, h]

/-- `bitAt` is one bit, in bit 0 of a byte (42_bitplane.md R181). -/
theorem bitAt_eq (b : Byte) (x : Nat) : bitAt b x = (BitVec.ofBool (b.getLsbD (7 - x % 8))).setWidth 8 := by
  have : ∀ k : Fin 8, ∀ b : Byte, (b >>> (7 - k.val)) &&& 1 = (BitVec.ofBool (b.getLsbD (7 - k.val))).setWidth 8 := by
    decide
  exact this ⟨x % 8, Nat.mod_lt _ (by decide)⟩ b

/-- A bitplane pixel is its four plane bits, intensity first (42_bitplane.md R183). -/
theorem deintPix_eq (b0 b1 b2 b3 : Byte) (x : Nat) :
    deintPix b0 b1 b2 b3 x =
      (0 : BitVec 4) ++ BitVec.ofBool (b3.getLsbD (7 - x % 8)) ++ BitVec.ofBool (b2.getLsbD (7 - x % 8))
        ++ BitVec.ofBool (b1.getLsbD (7 - x % 8)) ++ BitVec.ofBool (b0.getLsbD (7 - x % 8)) := by
  simp only [deintPix, bitAt_eq]
  generalize b0.getLsbD (7 - x % 8) = p0
  generalize b1.getLsbD (7 - x % 8) = p1
  generalize b2.getLsbD (7 - x % 8) = p2
  generalize b3.getLsbD (7 - x % 8) = p3
  revert p0 p1 p2 p3
  decide

/-- A glyph pixel is 255 or 0 by its bit (43_glyph.md R202). -/
theorem glyphPix_eq (b : Byte) (x : Nat) : glyphPix b x = if b.getLsbD (7 - x % 8) then 255 else 0 := by
  simp only [glyphPix, bitAt_eq]
  cases b.getLsbD (7 - x % 8) <;> decide

@[simp] theorem bpDecode_length (M : Nat → Byte) (W H : Nat) : (bpDecode M W H).length = W * H := by simp [bpDecode]

@[simp] theorem glDecode_length (M : Nat → Byte) (W H : Nat) : (glDecode M W H).length = W * H := by simp [glDecode]

theorem bpDecode_getElem? (M : Nat → Byte) (W H a : Nat) (h : a < W * H) :
    (bpDecode M W H)[a]? = some (bpPixel M W (a % W) (a / W)) := by
  simp [bpDecode, List.getElem?_range h]

theorem glDecode_getElem? (M : Nat → Byte) (W H a : Nat) (h : a < W * H) :
    (glDecode M W H)[a]? = some (glyphPix (M (glyphAddr W (a % W) (a / W))) (a % W)) := by
  simp [glDecode, List.getElem?_range h]

@[simp] theorem State.decodedPixels_length (s : State) : s.decodedPixels.length = s.fmtW * s.fmtH := by
  unfold State.decodedPixels
  split <;> simp

/-- Every offset a bitplane decode reads lies in the first `needBP` bytes (42_bitplane.md R185). -/
theorem planeAddr_lt {W H p x y : Nat} (hW : W % 8 = 0) (hp : p < 4) (hx : x < W) (hy : y < H) :
    planeAddr W p x y < needBP W H := by
  obtain ⟨k, rfl⟩ : ∃ k, W = 8 * k := ⟨W / 8, by omega⟩
  have h1 : 8 * k / 8 = k := by omega
  have h2 : x / 8 < k := by omega
  have h3 : needBP (8 * k) H = 4 * k * H := by
    unfold needBP
    rw [show 8 * k * H = 2 * (4 * k * H) by ring]
    omega
  rw [planeAddr, h1, h3]
  have h4 : 4 * k * (y + 1) ≤ 4 * k * H := Nat.mul_le_mul_left _ hy
  have h5 : p * k + k ≤ 4 * k := by nlinarith
  have h6 : 4 * k * (y + 1) = y * (4 * k) + 4 * k := by ring
  omega

/-- Every offset a glyph decode reads lies in the first `needGL` bytes (43_glyph.md R203). -/
theorem glyphAddr_lt {W H x y : Nat} (hW : W % 8 = 0) (hx : x < W) (hy : y < H) : glyphAddr W x y < needGL W H := by
  obtain ⟨k, rfl⟩ : ∃ k, W = 8 * k := ⟨W / 8, by omega⟩
  have h1 : 8 * k / 8 = k := by omega
  have h2 : x / 8 < k := by omega
  have h3 : needGL (8 * k) H = k * H := by
    unfold needGL
    rw [show 8 * k * H = 8 * (k * H) by ring]
    omega
  rw [glyphAddr, h1, h3]
  have h4 : k * (y + 1) ≤ k * H := Nat.mul_le_mul_left _ hy
  have h6 : k * (y + 1) = y * k + k := by ring
  omega

end Sys2Proof.Machine
end

