-- ==== Sys2Proof/Laws/Memory.lean ====
section
/-! SUPPORT. What reading and storing do, and that storing keeps the memory's canonical form (log 5). -/

namespace Sys2Proof.Machine

theorem Memory.lookup_cells (base : Nat) (bs : List Byte) (a : Nat) :
    (Memory.cells base bs).lookup a = if base ≤ a then bs[a - base]? else none := by
  induction bs generalizing base with
  | nil => simp [Memory.cells]
  | cons b bs ih =>
    simp only [Memory.cells, List.lookup_cons]
    by_cases h : a = base
    · subst h; simp
    · have hb : (a == base) = false := by simpa using h
      simp only [hb, ih]
      by_cases hle : base ≤ a
      · have h1 : base + 1 ≤ a := by omega
        obtain ⟨k, rfl⟩ : ∃ k, a = base + 1 + k := ⟨a - (base + 1), by omega⟩
        have e1 : base + 1 + k - base = k + 1 := by omega
        simp [hle, e1]
      · have h1 : ¬ base + 1 ≤ a := by omega
        simp [hle, h1]

theorem Memory.lookup_filter (m : Memory) (p : Nat → Bool) (a : Nat) :
    (m.filter (fun c => p c.1)).lookup a = if p a then m.lookup a else none := by
  induction m with
  | nil => simp
  | cons c m ih =>
    obtain ⟨x, v⟩ := c
    simp only [List.filter_cons, List.lookup_cons]
    by_cases hx : a = x
    · subst hx
      by_cases hp : p a
      · simp [hp]
      · simp [hp, ih]
    · have hb : (a == x) = false := by simpa using hx
      by_cases hp : p x
      · simp [hp, List.lookup_cons, hb, ih]
      · simp [hp, hb, ih]

/-- Reading after a store: the stored bytes where they were stored, everything else as before, BROM always the
parameter's. -/
theorem Memory.read_store (m : Memory) (base : Nat) (bs : List Byte) (a : Nat) :
    (m.store base bs).read a =
      match Memory.unlisted a with
      | some v => some v
      | none => if base ≤ a ∧ a < base + bs.length then bs[a - base]? else m.read a := by
  unfold Memory.read
  cases Memory.unlisted a with
  | some v => rfl
  | none =>
    simp only [Memory.store, List.lookup_append, Memory.lookup_cells]
    rw [Memory.lookup_filter m (fun x => decide (x < base)), Memory.lookup_filter m (fun x => decide (base + bs.length ≤ x))]
    by_cases h1 : a < base
    · have h2 : ¬ base ≤ a := by omega
      have h3 : ¬ base + bs.length ≤ a := by omega
      simp [h1, h2, h3]
    · by_cases h2 : base + bs.length ≤ a
      · have h3 : bs[a - base]? = none := by
          rw [List.getElem?_eq_none_iff]; omega
        have h4 : base ≤ a := by omega
        have h5 : ¬ a < base + bs.length := by omega
        simp [h1, h2, h3, h4, h5]
      · have h4 : base ≤ a := by omega
        have h5 : a < base + bs.length := by omega
        have h3 : ∃ v, bs[a - base]? = some v := ⟨_, List.getElem?_eq_getElem (by omega)⟩
        obtain ⟨v, hv⟩ := h3
        simp [h1, h2, h4, h5, hv]

theorem Memory.unlisted_eq_none {a : Nat} (h : bromBase + bromSize ≤ a) : Memory.unlisted a = none := by
  unfold Memory.unlisted
  exact if_neg fun hc => Nat.not_lt.mpr h hc.2

theorem Memory.unlisted_brom {a : Nat} (h : a < bromSize) :
    Memory.unlisted (bromBase + a) = some (Config.builtinRom a) := by
  unfold Memory.unlisted
  rw [if_pos ⟨Nat.le_add_right _ _, Nat.add_lt_add_left h _⟩, Nat.add_sub_cancel_left]

theorem Memory.read_store_inside (m : Memory) {base a : Nat} {bs : List Byte} (hr : bromBase + bromSize ≤ a)
    (h : base ≤ a) (h' : a < base + bs.length) : (m.store base bs).read a = bs[a - base]? := by
  rw [Memory.read_store, Memory.unlisted_eq_none hr]
  simp [h, h']

theorem Memory.read_store_outside (m : Memory) {base a : Nat} {bs : List Byte}
    (h : ¬ (base ≤ a ∧ a < base + bs.length)) : (m.store base bs).read a = m.read a := by
  rw [Memory.read_store]
  cases hu : Memory.unlisted a with
  | some v => simp [Memory.read, hu]
  | none => simp [h]

/-- BROM reads as the parameter, whatever is listed. -/
theorem Memory.read_brom (m : Memory) {a : Nat} (h : a < bromSize) :
    m.read (bromBase + a) = some (Config.builtinRom a) := by
  simp [Memory.read, Memory.unlisted_brom h]

theorem State.brom_eq (s : State) (k : Fin 3) {a : Nat} (h : a < 64) : s.brom k a = Config.builtinRom (64 * k + a) := by
  unfold State.brom State.byteAt
  rw [Nat.add_assoc, Memory.read_brom _ (by unfold bromSize; omega)]
  rfl

theorem Memory.mem_cells {base : Nat} {bs : List Byte} {c : Host.Cell} (h : c ∈ Memory.cells base bs) :
    base ≤ c.1 ∧ c.1 < base + bs.length := by
  induction bs generalizing base with
  | nil => simp [Memory.cells] at h
  | cons b bs ih =>
    simp only [Memory.cells, List.mem_cons] at h
    rcases h with rfl | h
    · simp
    · have := ih h
      simp only [List.length_cons]
      omega

theorem Memory.pairwise_cells (base : Nat) (bs : List Byte) :
    (Memory.cells base bs).Pairwise (fun c d => c.1 < d.1) := by
  induction bs generalizing base with
  | nil => simp [Memory.cells]
  | cons b bs ih =>
    simp only [Memory.cells, List.pairwise_cons]
    exact ⟨fun c hc => by have := Memory.mem_cells hc; omega, ih (base + 1)⟩

/-- A store of bytes of IBUF or OBUF keeps the canonical form. -/
theorem Memory.store_wf {p : Params} {m : Memory} (hm : m.wf p) {base : Nat} {bs : List Byte}
    (hb : ∀ a, base ≤ a → a < base + bs.length → Memory.isRam p a = true) : (m.store base bs).wf p := by
  obtain ⟨hs, hr⟩ := hm
  refine ⟨?_, ?_⟩
  · unfold Memory.store
    rw [List.pairwise_append, List.pairwise_append]
    refine ⟨⟨hs.filter _, Memory.pairwise_cells _ _, ?_⟩, hs.filter _, ?_⟩
    · intro c hc d hd
      have h1 : c.1 < base := by simpa using (List.mem_filter.mp hc).2
      have := Memory.mem_cells hd
      omega
    · intro c hc d hd
      have h2 : base + bs.length ≤ d.1 := by simpa using (List.mem_filter.mp hd).2
      rcases List.mem_append.mp hc with hc | hc
      · have h1 : c.1 < base := by simpa using (List.mem_filter.mp hc).2
        omega
      · have := Memory.mem_cells hc
        omega
  · intro c hc
    unfold Memory.store at hc
    rcases List.mem_append.mp hc with hc | hc
    · rcases List.mem_append.mp hc with hc | hc
      · exact hr c (List.mem_filter.mp hc).1
      · have := Memory.mem_cells hc
        exact hb _ this.1 this.2
    · exact hr c (List.mem_filter.mp hc).1

/-- Nothing is listed after reset, which is canonical in every configuration. -/
theorem Memory.wf_nil (p : Params) : Memory.wf p [] := by simp [Memory.wf]

theorem State.reset_mem_wf : State.reset.mem.wf State.reset.params := Memory.wf_nil _

end Sys2Proof.Machine
end

