-- ==== Sys2Proof/Laws/Input.lean ====
section
/-! SUPPORT. What the Engine's reads of IBUF can do (70_reset_and_hazards.md R402), and which offsets the parses read. -/

namespace Sys2Proof.Machine

theorem State.firstUnwritten_eq_none (s : State) (offsets : List Nat) :
    s.firstUnwritten offsets = none ↔ ∀ a ∈ offsets, (s.mem.read (ibufBase + a)).isSome = true := by
  simp [State.firstUnwritten, List.find?_eq_none, Option.isSome_iff_ne_none]

theorem State.firstUnwritten_eq_some {s : State} {offsets : List Nat} {a : Nat} (h : s.firstUnwritten offsets = some a) :
    a ∈ offsets ∧ s.mem.read (ibufBase + a) = none := by
  refine ⟨List.mem_of_find?_eq_some h, ?_⟩
  have := List.find?_some h
  simpa using this

/-- All the bytes written: the Engine goes on. -/
theorem State.withInput_written {s : State} {offsets : List Nat}
    (h : ∀ a ∈ offsets, (s.mem.read (ibufBase + a)).isSome = true) (o : Host.Outcome State Fault Refusal) :
    s.withInput offsets o = o := by
  simp [State.withInput, (State.firstUnwritten_eq_none s offsets).mpr h]

/-- All an Engine read can do: go on with every byte written, or stop at one that is not. -/
theorem State.withInput_cases (s : State) (offsets : List Nat) (o : Host.Outcome State Fault Refusal) :
    (s.withInput offsets o = o ∧ ∀ a ∈ offsets, (s.mem.read (ibufBase + a)).isSome = true) ∨
      ∃ a ∈ offsets, s.mem.read (ibufBase + a) = none ∧ s.withInput offsets o = .fault (.uninitInput (ibufBase + a)) := by
  cases h : s.firstUnwritten offsets with
  | none => exact .inl ⟨by simp [State.withInput, h], (State.firstUnwritten_eq_none s offsets).mp h⟩
  | some a =>
    have := State.firstUnwritten_eq_some h
    exact .inr ⟨a, this.1, this.2, by simp [State.withInput, h]⟩

theorem State.withInput_next {s t : State} {offsets : List Nat} {o : Host.Outcome State Fault Refusal}
    (h : s.withInput offsets o = .next t) :
    o = .next t ∧ ∀ a ∈ offsets, (s.mem.read (ibufBase + a)).isSome = true := by
  rcases State.withInput_cases s offsets o with ⟨h', ha⟩ | ⟨a, _, _, h'⟩
  · exact ⟨h' ▸ h, ha⟩
  · rw [h'] at h; cases h

theorem State.withInput_fault {s : State} {f : Fault} {offsets : List Nat} {o : Host.Outcome State Fault Refusal}
    (h : s.withInput offsets o = .fault f) :
    o = .fault f ∨ ∃ a ∈ offsets, s.mem.read (ibufBase + a) = none ∧ f = .uninitInput (ibufBase + a) := by
  rcases State.withInput_cases s offsets o with ⟨h', _⟩ | ⟨a, ha, hr, h'⟩
  · exact .inl (h' ▸ h)
  · rw [h'] at h
    cases h
    exact .inr ⟨a, ha, hr, rfl⟩

/-- The Engine's reads depend only on which of the bytes are written. -/
theorem State.firstUnwritten_congr {s t : State} {offsets : List Nat}
    (h : ∀ a ∈ offsets, t.mem.read (ibufBase + a) = s.mem.read (ibufBase + a)) :
    t.firstUnwritten offsets = s.firstUnwritten offsets := by
  unfold State.firstUnwritten
  induction offsets with
  | nil => rfl
  | cons a l ih =>
    simp only [List.find?_cons, h a List.mem_cons_self]
    rw [ih fun b hb => h b (List.mem_cons_of_mem _ hb)]

theorem State.ibuf_of_read {s : State} {a : Nat} {v : Byte} (h : s.mem.read (ibufBase + a) = some v) : s.ibuf a = v := by
  simp [State.ibuf, State.byteAt, h]

theorem State.ibuf_congr {s t : State} {a : Nat} (hf : t.freeIndex = s.freeIndex)
    (h : t.mem.read (ibufBase + a) = s.mem.read (ibufBase + a)) : t.ibuf a = s.ibuf a := by
  simp [State.ibuf, State.byteAt, h, hf]

/-- The 48 offsets of a block: byte c = 0, 1, 2 of entry i (40_palette_table.md R133). -/
theorem mem_blockOffsets {base a : Nat} :
    a ∈ blockOffsets base ↔ ∃ i c, i < 16 ∧ c < 3 ∧ a = base + 4 * i + c := by
  simp only [blockOffsets, List.mem_flatMap, List.mem_range, List.mem_cons, List.not_mem_nil, or_false]
  constructor
  · rintro ⟨i, hi, rfl | rfl | rfl⟩
    · exact ⟨i, 0, hi, by omega, rfl⟩
    · exact ⟨i, 1, hi, by omega, rfl⟩
    · exact ⟨i, 2, hi, by omega, rfl⟩
  · rintro ⟨i, c, hi, hc, rfl⟩
    refine ⟨i, hi, ?_⟩
    omega

theorem mem_bankOffsets {m a : Nat} :
    a ∈ bankOffsets m ↔ ∃ j i c, j < m ∧ i < 16 ∧ c < 3 ∧ a = 64 * j + 4 * i + c := by
  simp only [bankOffsets, List.mem_flatMap, List.mem_range, mem_blockOffsets]
  constructor
  · rintro ⟨j, hj, i, c, hi, hc, rfl⟩
    exact ⟨j, i, c, hj, hi, hc, rfl⟩
  · rintro ⟨j, i, c, hj, hi, hc, rfl⟩
    exact ⟨j, hj, i, c, hi, hc, rfl⟩

/-- Every offset of the first m blocks lies in the m blocks. -/
theorem lt_of_mem_bankOffsets {m a : Nat} (h : a ∈ bankOffsets m) : a < 64 * m := by
  obtain ⟨j, i, c, hj, hi, hc, rfl⟩ := mem_bankOffsets.mp h
  omega

theorem lt_of_mem_blockOffsets {a : Nat} (h : a ∈ blockOffsets 0) : a < 64 := by
  obtain ⟨i, c, hi, hc, rfl⟩ := mem_blockOffsets.mp h
  omega

end Sys2Proof.Machine
end

