-- ==== Sys2Proof/Laws/Palettes.lean ====
section
/-! SUPPORT. Entries of the palettes the block parse, the grey ramp, the lookup port and LDBANK make. -/

namespace Sys2Proof.Machine

theorem parseBlock_getElem (M : Nat → Byte) (base : Nat) (i : Nat) (h : i < 16) :
    (parseBlock M base)[i] =
      buildColor (M (base + 4 * i)) (M (base + 4 * i + 1)) (M (base + 4 * i + 2)) := by
  simp [parseBlock]

/-- A block's palette depends only on the bytes the parse reads (40_palette_table.md R133). -/
theorem parseBlock_congr {M N : Nat → Byte} {base : Nat} (h : ∀ a ∈ blockOffsets base, N a = M a) :
    parseBlock N base = parseBlock M base := by
  unfold parseBlock
  congr 1
  funext i
  have e0 := h (base + 4 * i) (mem_blockOffsets.mpr ⟨i, 0, i.isLt, by omega, rfl⟩)
  have e1 := h (base + 4 * i + 1) (mem_blockOffsets.mpr ⟨i, 1, i.isLt, by omega, rfl⟩)
  have e2 := h (base + 4 * i + 2) (mem_blockOffsets.mpr ⟨i, 2, i.isLt, by omega, rfl⟩)
  rw [e0, e1, e2]

/-- The channel of a source byte is 16 times its low nibble (40_palette_table.md R130). -/
theorem nib8_toNat (b : Byte) : (nib8 b).toNat = 16 * (b.toNat % 16) := by
  revert b; decide

theorem gray_getElem (i : Nat) (h : i < 16) :
    gray[i] = ⟨BitVec.ofNat 8 (17 * i), BitVec.ofNat 8 (17 * i), BitVec.ofNat 8 (17 * i)⟩ := by
  simp [gray]

theorem State.loadedBank_getElem (s : State) (m : Nat) (j : Nat) (h : j < 16) :
    (s.loadedBank m)[j] = if j < m then some (parseBlock s.ibuf (64 * j)) else s.pbank[j] := by
  simp [State.loadedBank]

/-- A written slot is what the Engine reads from it. -/
theorem State.bankSlot_of_some {s : State} {j : Nat} (h : j < 16) {p : Palette} (hp : s.pbank[j] = some p) :
    s.bankSlot j = p := by
  unfold State.bankSlot
  rw [Vector.getElem?_eq_getElem h, hp]
  rfl

/-- A byte of IBUF or OBUF stored anywhere leaves BROM as it was. -/
theorem State.brom_congr (s t : State) (k : Fin 3) {a : Nat} (h : a < 64) : t.brom k a = s.brom k a := by
  rw [State.brom_eq t k h, State.brom_eq s k h]

theorem State.parse_brom (s : State) (k : Fin 3) :
    parseBlock (s.brom k) 0 = parseBlock (fun a => Config.builtinRom (64 * k + a)) 0 :=
  parseBlock_congr fun _ ha => (State.brom_eq s k (lt_of_mem_blockOffsets ha)).symm ▸ rfl

/-- Two states with the same bank and free values resolve a rule alike, whatever else differs (41_palette_resolver.md R162). -/
theorem State.resolvePal_congr {s t : State} (hb : t.bankLen = s.bankLen) (hp : t.pbank = s.pbank)
    (hf : t.freeIndex = s.freeIndex) (rule : PaletteRule) : t.resolvePal rule = s.resolvePal rule := by
  cases rule with
  | fixedBuiltin k => simp only [State.resolvePal, State.parse_brom]
  | bankIndex i =>
    have h : t.bankSlot i.toNat = s.bankSlot i.toNat := by unfold State.bankSlot; rw [hp, hf]
    have hl : t.bankLength = s.bankLength := by unfold State.bankLength; rw [hb]
    simp only [State.resolvePal, hl, h]
  | noPalette => rfl

/-- Writing the pixels does not change what a rule resolves to. -/
theorem State.writePixels_resolvePal (s : State) (rule : PaletteRule) :
    s.writePixels.resolvePal rule = s.resolvePal rule :=
  State.resolvePal_congr (State.writePixels_bankLen s) (State.writePixels_pbank s) (State.writePixels_freeIndex s) rule

end Sys2Proof.Machine
end

