-- ==== Sys2Proof/Laws/Bus.lean ====
section
/-! SUPPORT. All a host access can do, said once, and the address map's consequences. -/

namespace Sys2Proof.Machine

theorem busOk_iff (p : Params) (n : Width) (a : Nat) :
    busOk p n a = true ↔
      (∀ k < n.bytes, regionOf p (a + k) ≠ .unmapped) ∧ a % n.bytes = 0 ∧ (regionOf p a).allows n = true := by
  simp [busOk, and_assoc]

/-- A host read (20_memory.md R73, R83; 70_reset_and_hazards.md R407). -/
theorem hostRead_cases (n : Width) (a : Addr) (s : State) :
    (busOk s.params n a.toNat = false ∧ hostRead n a s = .fault (.hostBusError a.toNat n.bytes)) ∨
      (busOk s.params n a.toNat = true ∧ s.busy = true ∧ (regionOf s.params a.toNat).readableWhileBusy = false ∧
        hostRead n a s = .fault (.hostAccessWhileBusy a.toNat)) ∨
      (busOk s.params n a.toNat = true ∧
        (s.busy = true → (regionOf s.params a.toNat).readableWhileBusy = true) ∧
        hostRead n a s = .next { s with busData := some (s.busRead n a.toNat (regionOf s.params a.toNat)) }) := by
  unfold hostRead
  dsimp only
  split
  next h => exact .inl ⟨h, rfl⟩
  next h =>
  split
  next h2 => exact .inr (.inl ⟨by simpa using h, h2.1, h2.2, rfl⟩)
  next h2 => exact .inr (.inr ⟨by simpa using h, fun hb => by simpa [hb] using h2, rfl⟩)

/-- A host write (20_memory.md R73; 70_reset_and_hazards.md R407). -/
theorem hostWrite_cases (n : Width) (a : Addr) (v : Word) (s : State) :
    (busOk s.params n a.toNat = false ∧ hostWrite n a v s = .fault (.hostBusError a.toNat n.bytes)) ∨
      (busOk s.params n a.toNat = true ∧ s.busy = true ∧ (regionOf s.params a.toNat).writableWhileBusy = false ∧
        hostWrite n a v s = .fault (.hostAccessWhileBusy a.toNat)) ∨
      (busOk s.params n a.toNat = true ∧
        (s.busy = true → (regionOf s.params a.toNat).writableWhileBusy = true) ∧
        hostWrite n a v s = .next (s.busWrite n a.toNat v (regionOf s.params a.toNat)).tick) := by
  unfold hostWrite
  dsimp only
  split
  next h => exact .inl ⟨h, rfl⟩
  next h =>
  split
  next h2 => exact .inr (.inl ⟨by simpa using h, h2.1, h2.2, rfl⟩)
  next h2 => exact .inr (.inr ⟨by simpa using h, fun hb => by simpa [hb] using h2, rfl⟩)

/-- The IBUF window (20_memory.md R74). -/
theorem regionOf_eq_ibuf {p : Params} {a : Nat} (h : regionOf p a = .ibuf) :
    ibufBase ≤ a ∧ a < ibufBase + p.ibufSize := by
  unfold regionOf at h
  split at h
  · split at h <;> cases h
  split at h
  · cases h
  split at h
  · cases h
  split at h
  · cases h
  split at h
  · cases h
  split at h
  next hc => exact hc
  · split at h <;> cases h

/-- The OBUF window (20_memory.md R75). -/
theorem regionOf_eq_obuf {p : Params} {a : Nat} (h : regionOf p a = .obuf) :
    obufBase ≤ a ∧ a < obufBase + p.obufSize := by
  unfold regionOf at h
  split at h
  · split at h <;> cases h
  split at h
  · cases h
  split at h
  · cases h
  split at h
  · cases h
  split at h
  · cases h
  split at h
  · cases h
  split at h
  next hc => exact hc
  · cases h

/-- A byte from 0x020000 up that is mapped is a byte of IBUF or of OBUF (20_memory.md R72). -/
theorem isRam_of_mapped {p : Params} {a : Nat} (hp : p.bankMax ≤ 16) (ha : ibufBase ≤ a)
    (h : regionOf p a ≠ .unmapped) : Memory.isRam p a = true := by
  have hb : 0x20000 ≤ a := ha
  unfold regionOf at h
  rw [if_neg (by omega), if_neg (by omega), if_neg (by omega),
    if_neg (by unfold bromBase bromSize; omega), if_neg (by omega)] at h
  unfold Memory.isRam
  split at h
  next hc => simp [hc]
  next =>
    split at h
    next hc => simp [hc]
    next => exact absurd rfl h

/-! A bus write changes no field of the block but those of the registers the host may write and the memory. -/

/-- A register write changes only CMD, BUSY, DONE, OVR, IE, IN_LEN, UFMT_GEOM, UFMT_CTRL and DIN
(10_state.md R22, R23, R25, R26, R32 to R34, R53). -/
theorem State.writeReg_eq (s : State) (r : Reg) (w : Word) :
    s.writeReg r w = { s with
      cmd := (s.writeReg r w).cmd, busy := (s.writeReg r w).busy, done := (s.writeReg r w).done,
      ovr := (s.writeReg r w).ovr, ie := (s.writeReg r w).ie, inLen := (s.writeReg r w).inLen,
      ufmtGeom := (s.writeReg r w).ufmtGeom, ufmtCtrl := (s.writeReg r w).ufmtCtrl, din := (s.writeReg r w).din } := by
  cases r with
  | cmd =>
    simp only [State.writeReg, State.writeCmd]
    split <;> rfl
  | _ => rfl

/-- All a bus write can do: a register write, bytes of IBUF or OBUF, or nothing (20_memory.md R74 to R80, 10_state.md
R53). -/
theorem State.busWrite_cases (s : State) (n : Width) (a : Nat) (v : Word) (g : Region) :
    (∃ r, g = .reg r ∧ s.busWrite n a v g = s.writeReg r v) ∨
      ((g = .ibuf ∨ g = .obuf) ∧ s.busWrite n a v g = { s with mem := s.mem.store a (bytesOf n.bytes v) }) ∨
      ((∀ r, g ≠ .reg r) ∧ g ≠ .ibuf ∧ g ≠ .obuf ∧ s.busWrite n a v g = s) := by
  cases g <;> simp [State.busWrite]

@[simp] theorem State.busWrite_err (s : State) (n : Width) (a : Nat) (v : Word) (g : Region) :
    (s.busWrite n a v g).err = s.err := by
  rcases State.busWrite_cases s n a v g with ⟨r, _, h⟩ | ⟨_, h⟩ | ⟨_, _, _, h⟩ <;> rw [h]
  rw [State.writeReg_eq]

@[simp] theorem State.busWrite_fmtValid (s : State) (n : Width) (a : Nat) (v : Word) (g : Region) :
    (s.busWrite n a v g).fmtValid = s.fmtValid := by
  rcases State.busWrite_cases s n a v g with ⟨r, _, h⟩ | ⟨_, h⟩ | ⟨_, _, _, h⟩ <;> rw [h]
  rw [State.writeReg_eq]

@[simp] theorem State.busWrite_palSrc (s : State) (n : Width) (a : Nat) (v : Word) (g : Region) :
    (s.busWrite n a v g).palSrc = s.palSrc := by
  rcases State.busWrite_cases s n a v g with ⟨r, _, h⟩ | ⟨_, h⟩ | ⟨_, _, _, h⟩ <;> rw [h]
  rw [State.writeReg_eq]

@[simp] theorem State.busWrite_errCode (s : State) (n : Width) (a : Nat) (v : Word) (g : Region) :
    (s.busWrite n a v g).errCode = s.errCode := by
  rcases State.busWrite_cases s n a v g with ⟨r, _, h⟩ | ⟨_, h⟩ | ⟨_, _, _, h⟩ <;> rw [h]
  rw [State.writeReg_eq]

@[simp] theorem State.busWrite_outLen (s : State) (n : Width) (a : Nat) (v : Word) (g : Region) :
    (s.busWrite n a v g).outLen = s.outLen := by
  rcases State.busWrite_cases s n a v g with ⟨r, _, h⟩ | ⟨_, h⟩ | ⟨_, _, _, h⟩ <;> rw [h]
  rw [State.writeReg_eq]

@[simp] theorem State.busWrite_bankLen (s : State) (n : Width) (a : Nat) (v : Word) (g : Region) :
    (s.busWrite n a v g).bankLen = s.bankLen := by
  rcases State.busWrite_cases s n a v g with ⟨r, _, h⟩ | ⟨_, h⟩ | ⟨_, _, _, h⟩ <;> rw [h]
  rw [State.writeReg_eq]

@[simp] theorem State.busWrite_fmtId (s : State) (n : Width) (a : Nat) (v : Word) (g : Region) :
    (s.busWrite n a v g).fmtId = s.fmtId := by
  rcases State.busWrite_cases s n a v g with ⟨r, _, h⟩ | ⟨_, h⟩ | ⟨_, _, _, h⟩ <;> rw [h]
  rw [State.writeReg_eq]

@[simp] theorem State.busWrite_fmtGeom (s : State) (n : Width) (a : Nat) (v : Word) (g : Region) :
    (s.busWrite n a v g).fmtGeom = s.fmtGeom := by
  rcases State.busWrite_cases s n a v g with ⟨r, _, h⟩ | ⟨_, h⟩ | ⟨_, _, _, h⟩ <;> rw [h]
  rw [State.writeReg_eq]

@[simp] theorem State.busWrite_fmtCtrl (s : State) (n : Width) (a : Nat) (v : Word) (g : Region) :
    (s.busWrite n a v g).fmtCtrl = s.fmtCtrl := by
  rcases State.busWrite_cases s n a v g with ⟨r, _, h⟩ | ⟨_, h⟩ | ⟨_, _, _, h⟩ <;> rw [h]
  rw [State.writeReg_eq]

@[simp] theorem State.busWrite_doutLo (s : State) (n : Width) (a : Nat) (v : Word) (g : Region) :
    (s.busWrite n a v g).doutLo = s.doutLo := by
  rcases State.busWrite_cases s n a v g with ⟨r, _, h⟩ | ⟨_, h⟩ | ⟨_, _, _, h⟩ <;> rw [h]
  rw [State.writeReg_eq]

@[simp] theorem State.busWrite_doutHi (s : State) (n : Width) (a : Nat) (v : Word) (g : Region) :
    (s.busWrite n a v g).doutHi = s.doutHi := by
  rcases State.busWrite_cases s n a v g with ⟨r, _, h⟩ | ⟨_, h⟩ | ⟨_, _, _, h⟩ <;> rw [h]
  rw [State.writeReg_eq]

@[simp] theorem State.busWrite_pal (s : State) (n : Width) (a : Nat) (v : Word) (g : Region) :
    (s.busWrite n a v g).pal = s.pal := by
  rcases State.busWrite_cases s n a v g with ⟨r, _, h⟩ | ⟨_, h⟩ | ⟨_, _, _, h⟩ <;> rw [h]
  rw [State.writeReg_eq]

@[simp] theorem State.busWrite_pbank (s : State) (n : Width) (a : Nat) (v : Word) (g : Region) :
    (s.busWrite n a v g).pbank = s.pbank := by
  rcases State.busWrite_cases s n a v g with ⟨r, _, h⟩ | ⟨_, h⟩ | ⟨_, _, _, h⟩ <;> rw [h]
  rw [State.writeReg_eq]

@[simp] theorem State.busWrite_params (s : State) (n : Width) (a : Nat) (v : Word) (g : Region) :
    (s.busWrite n a v g).params = s.params := by
  rcases State.busWrite_cases s n a v g with ⟨r, _, h⟩ | ⟨_, h⟩ | ⟨_, _, _, h⟩ <;> rw [h]
  rw [State.writeReg_eq]

@[simp] theorem State.busWrite_program (s : State) (n : Width) (a : Nat) (v : Word) (g : Region) :
    (s.busWrite n a v g).program = s.program := by
  rcases State.busWrite_cases s n a v g with ⟨r, _, h⟩ | ⟨_, h⟩ | ⟨_, _, _, h⟩ <;> rw [h]
  rw [State.writeReg_eq]

@[simp] theorem State.busWrite_schedule (s : State) (n : Width) (a : Nat) (v : Word) (g : Region) :
    (s.busWrite n a v g).schedule = s.schedule := by
  rcases State.busWrite_cases s n a v g with ⟨r, _, h⟩ | ⟨_, h⟩ | ⟨_, _, _, h⟩ <;> rw [h]
  rw [State.writeReg_eq]

@[simp] theorem State.busWrite_busData (s : State) (n : Width) (a : Nat) (v : Word) (g : Region) :
    (s.busWrite n a v g).busData = s.busData := by
  rcases State.busWrite_cases s n a v g with ⟨r, _, h⟩ | ⟨_, h⟩ | ⟨_, _, _, h⟩ <;> rw [h]
  rw [State.writeReg_eq]

@[simp] theorem State.busWrite_freeIndex (s : State) (n : Width) (a : Nat) (v : Word) (g : Region) :
    (s.busWrite n a v g).freeIndex = s.freeIndex := by
  rcases State.busWrite_cases s n a v g with ⟨r, _, h⟩ | ⟨_, h⟩ | ⟨_, _, _, h⟩ <;> rw [h]
  rw [State.writeReg_eq]

@[simp] theorem bytesOf_length (n : Nat) (v : Word) : (bytesOf n v).length = n := by simp [bytesOf]

theorem bytesOf_getElem? {n k : Nat} (v : Word) (h : k < n) : (bytesOf n v)[k]? = some (v.extractLsb' (8 * k) 8) := by
  simp [bytesOf, List.getElem?_range h]

/-- A byte as a lane fits in eight bits. -/
theorem byteLane_lt {bs : List Byte} {l : Word} (h : l ∈ bs.map (·.setWidth 32)) : l.toNat < 2 ^ 8 := by
  obtain ⟨b, _, rfl⟩ := List.mem_map.mp h
  rw [BitVec.toNat_setWidth]
  exact Nat.lt_of_le_of_lt (Nat.mod_le _ _) b.isLt

/-- Byte k of the little-endian number (20_memory.md R71). -/
theorem littleEndian_byte (bs : List Byte) {k : Nat} (hk : k < 4) : (littleEndian bs).extractLsb' (8 * k) 8 = bs[k]?.getD 0 := by
  apply BitVec.eq_of_getLsbD_eq
  intro i hi
  rw [BitVec.getLsbD_extractLsb', littleEndian, packLanes_getLsbD (by decide) _ (fun _ => byteLane_lt) _ (by omega)]
  have e1 : (8 * k + i) / 8 = k := by omega
  have e2 : (8 * k + i) % 8 = i := by omega
  have e3 : i < 32 := by omega
  rw [e1, e2, List.getElem?_map]
  cases bs[k]? <;> simp [hi, e3]

/-- The bits above the bytes of the little-endian number are 0 (20_memory.md R71). -/
theorem littleEndian_lt (bs : List Byte) : (littleEndian bs).toNat < 2 ^ (8 * bs.length) := by
  apply Nat.lt_pow_two_of_testBit
  intro i hi
  change (littleEndian bs).getLsbD i = false
  by_cases h : i < 32
  · rw [littleEndian, packLanes_getLsbD (by decide) _ (fun _ => byteLane_lt) _ h, List.getElem?_map,
      List.getElem?_eq_none (by omega : bs.length ≤ i / 8)]
    simp
  · exact BitVec.getLsbD_of_ge _ _ (by omega)

end Sys2Proof.Machine
end

