-- ==== Sys2Proof/Laws/Exec.lean ====
section
/-! SUPPORT. All each command can do, said once: its failures in their order, or its effect with what it found. -/

namespace Sys2Proof.Machine

/-- SELFMT (44_dispatch.md R225). -/
theorem execSelfmt_cases (fid : FormatId) (s : State) :
    (∃ e, (e = .unknownFormat ∨ e = .illegalDescriptor ∨ e = .geometry ∨ e = .capacity) ∧
        execSelfmt fid s = .next (s.raiseNoFormat e)) ∨
      ((fid ≠ 15 → (s.descOf fid).ctrl.getLsbD 31 = true) ∧ legalDesc ((s.descOf fid).ctrl.setWidth 31) = true ∧
        geometryFits s.params.obufSize (s.descOf fid).geom = true ∧
        execSelfmt fid s = .next (State.complete { s with
          fmtId := fid, fmtGeom := (s.descOf fid).geom, fmtCtrl := (s.descOf fid).ctrl.setWidth 31, fmtValid := true })) := by
  unfold execSelfmt
  dsimp only
  split
  · exact .inl ⟨_, .inl rfl, rfl⟩
  next h1 =>
  split
  · exact .inl ⟨_, .inr (.inl rfl), rfl⟩
  next h2 =>
  split
  · exact .inl ⟨_, .inr (.inr (.inl rfl)), rfl⟩
  next h3 =>
  split
  · exact .inl ⟨_, .inr (.inr (.inr rfl)), rfl⟩
  next h4 =>
  refine .inr ⟨fun hf => ?_, by simpa using h2, ?_, rfl⟩
  · by_contra hc
    exact h1 ⟨hf, by simpa using hc⟩
  · simp only [geometryFits, Bool.and_eq_true, decide_eq_true_eq]
    omega

/-- LDBANK (40_palette_table.md R140). -/
theorem execLdbank_cases (s : State) :
    (∃ e, (e = .capacity ∨ e = .formatBankLen) ∧ execLdbank s = .next (s.raiseNoBank e)) ∨
      (s.inputLength ≤ s.params.ibufSize ∧ s.inputLength % 64 = 0 ∧ s.inputLength / 64 ≤ s.params.bankMax ∧
        execLdbank s = s.withInput (bankOffsets (s.inputLength / 64)) (.next (State.complete { s with
          pbank := s.loadedBank (s.inputLength / 64), bankLen := BitVec.ofNat 32 (s.inputLength / 64) }))) := by
  unfold execLdbank
  dsimp only
  split
  · exact .inl ⟨_, .inl rfl, rfl⟩
  split
  · exact .inl ⟨_, .inr rfl, rfl⟩
  split
  · exact .inl ⟨_, .inl rfl, rfl⟩
  · exact .inr ⟨by omega, by omega, by omega, rfl⟩

/-- LDPAL (40_palette_table.md R142). -/
theorem execLdpal_cases (s : State) :
    (∃ e, (e = .capacity ∨ e = .formatLength) ∧ execLdpal s = .next (s.raise e)) ∨
      (s.inputLength ≤ s.params.ibufSize ∧ s.inputLength = 64 ∧
        execLdpal s = s.withInput (blockOffsets 0)
          (.next (State.complete { s with pal := parseBlock s.ibuf 0, palSrc := .direct }))) := by
  unfold execLdpal
  dsimp only
  split
  · exact .inl ⟨_, .inl rfl, rfl⟩
  split
  · exact .inl ⟨_, .inr rfl, rfl⟩
  · exact .inr ⟨by omega, by omega, rfl⟩

/-- Attaching the palette (41_palette_resolver.md R165): it completes, or the latched rule is none SELFMT latches. -/
theorem State.attachAndComplete_cases (s : State) :
    (∃ rule, s.fmtRule = some rule ∧ s.attachAndComplete = .next (s.attachPalette rule).complete) ∨
      (s.fmtRule = none ∧ s.attachAndComplete = .fault .unlatchableFormat) := by
  unfold State.attachAndComplete
  split
  next rule h => exact .inl ⟨rule, h, rfl⟩
  next h => exact .inr ⟨h, rfl⟩

/-- RESOLVE (41_palette_resolver.md R165). -/
theorem execResolve_cases (s : State) :
    (s.fmtValid = false ∧ execResolve s = .next (s.raise .noFormat)) ∨
      (s.fmtValid = true ∧ execResolve s = s.attachAndComplete) := by
  unfold execResolve
  cases h : s.fmtValid <;> simp

/-- DECODE (44_dispatch.md R230). -/
theorem execDecode_cases (s : State) :
    (∃ e, (e = .noFormat ∨ e = .capacity ∨ e = .formatLength) ∧ execDecode s = .next (s.raiseNoOutput e)) ∨
      (s.fmtValid = true ∧ s.inputLength ≤ s.params.ibufSize ∧ s.need ≤ s.inputLength ∧
        ((s.fmtKind = .bitplane4 ∧
            execDecode s = s.withInput (List.range s.need) s.writePixels.attachAndComplete) ∨
          (s.fmtKind = .font1bit ∧
            execDecode s = s.withInput (List.range s.need)
              (.next (State.complete { s.writePixels with palSrc := .noPalette }))))) := by
  unfold execDecode
  split
  · exact .inl ⟨_, .inl rfl, rfl⟩
  next h1 =>
  split
  · exact .inl ⟨_, .inr (.inl rfl), rfl⟩
  split
  · exact .inl ⟨_, .inr (.inr rfl), rfl⟩
  refine .inr ⟨by simpa using h1, by omega, by omega, ?_⟩
  cases hk : s.fmtKind
  · exact .inl ⟨rfl, rfl⟩
  · exact .inr ⟨rfl, rfl⟩

/-- A legal descriptor has a palette rule (30_encoding.md R115, R112). -/
theorem paletteRule_of_legal {c : CtrlBits} (h : legalDesc c = true) : ∃ rule, paletteRule c = some rule := by
  unfold legalDesc at h
  simp only [Bool.and_eq_true, Bool.or_eq_true, beq_iff_eq, decide_eq_true_eq] at h
  unfold paletteRule
  rcases h.2 with (⟨⟨_, hp⟩, ha⟩ | ⟨_, hp⟩) | ⟨⟨_, hp⟩, _⟩
  · have : (ctrlParg c).toNat < 3 := by omega
    exact ⟨_, by simp [hp, this]; rfl⟩
  · exact ⟨_, by simp [hp]; rfl⟩
  · exact ⟨_, by simp [hp]; rfl⟩

end Sys2Proof.Machine
end

