-- ==== Sys2Proof/Laws/PerInstr.lean ====
section
/-! SUPPORT. Statements about every command, one lemma per constructor. -/

namespace Sys2Proof.Laws.EncodesLegally

/-- The command's word is legal (30_encoding.md R104) and its fields are the command's (R100): OP the opcode of R103, FID
the format ID. -/
def Statement (i : Instr) : Prop :=
  legalWord (encode i) = true ∧ opField (encode i) = i.opcode ∧ fidField (encode i) = i.fid

theorem nop : Statement .nop := by unfold Statement; decide

theorem selfmt (fid : FormatId) : Statement (.selfmt fid) := by
  revert fid
  unfold Statement
  decide

theorem ldbank : Statement .ldbank := by unfold Statement; decide

theorem ldpal : Statement .ldpal := by unfold Statement; decide

theorem resolve : Statement .resolve := by unfold Statement; decide

theorem decode : Statement .decode := by unfold Statement; decide

theorem deint : Statement .deint := by unfold Statement; decide

theorem unpack : Statement .unpack := by unfold Statement; decide

end Sys2Proof.Laws.EncodesLegally
end

