-- ==== Sys2Proof/Laws/Step.lean ====
section
/-! SUPPORT. All one step can do, said once. -/

namespace Sys2Proof.Machine

/-- One operation of the host (30_encoding.md R118). -/
theorem hostStep_cases (s : State) :
    (s.program = [] ∧ hostStep s = .next s) ∨
      (∃ n a rest, s.program = .read n a :: rest ∧ hostStep s = hostRead n a { s with program := rest }) ∨
      (∃ n a v rest, s.program = .write n a v :: rest ∧ hostStep s = hostWrite n a v { s with program := rest }) ∨
      (∃ rest p, s.program = .wait :: rest ∧ (p = s.program ∨ p = rest) ∧
        hostStep s = .next { s with busData := some s.statusWord, program := p }) := by
  unfold hostStep
  split
  next h => exact .inl ⟨h, rfl⟩
  next n a rest h => exact .inr (.inl ⟨n, a, rest, h, rfl⟩)
  next n a v rest h => exact .inr (.inr (.inl ⟨n, a, v, rest, h, rfl⟩))
  next rest h =>
    refine .inr (.inr (.inr ⟨rest, _, h, ?_, rfl⟩))
    split
    · exact .inl rfl
    · exact .inr rfl

/-- One step in a configuration 00_scope.md R10 allows: a command, an illegal word, a turn with nothing to do, an operation
of the host, or the platform's reset. -/
theorem step_cases {s : State} (hp : legalParams s.params = true) :
    (∃ i, s.nextTurn = .engine ∧ s.busy = true ∧ decode s.cmd = .ok i ∧ step s = exec i s.engineState) ∨
      (∃ e, s.nextTurn = .engine ∧ s.busy = true ∧ decode s.cmd = .error e ∧
        step s = .next (s.engineState.raise .illegalCmd)) ∨
      (s.nextTurn = .engine ∧ s.busy = false ∧ step s = .next s.takeTurn) ∨
      (s.nextTurn = .host ∧ step s = hostStep s.takeTurn) ∨
      (s.nextTurn = .reset ∧ step s = .next s.takeTurn.platformReset) := by
  unfold step takeStep
  rw [if_pos hp]
  cases ht : s.nextTurn with
  | host => exact .inr (.inr (.inr (.inl ⟨by trivial, rfl⟩)))
  | reset => exact .inr (.inr (.inr (.inr ⟨by trivial, rfl⟩)))
  | engine =>
    cases hb : s.busy with
    | false => exact .inr (.inr (.inl ⟨by trivial, by trivial, by simp⟩))
    | true =>
      simp only [if_true, engineComplete, State.engineState_cmd]
      cases hd : decode s.cmd with
      | ok i => exact .inl ⟨i, by trivial, by trivial, by trivial, rfl⟩
      | error e => exact .inr (.inl ⟨e, by trivial, by trivial, by trivial, rfl⟩)

end Sys2Proof.Machine
end

