-- ==== Sys2Proof/Tests/Slice0.lean ====
section
/-! SUPPORT. Tests. The expected values of the first half are those of 95_test_vectors.md, worked out there from the rules. The
second half shows, for each statement with hypotheses, a state and operands that meet all of them together. -/

namespace Sys2Proof.Tests

open Sys2Proof Sys2Proof.Machine

/-! ## Small states -/

/-- Reset, then the bytes written at the start of IBUF and IN_LEN set. -/
def loaded (bs : List Byte) (n : Word) : State := { State.reset with mem := Memory.cells ibufBase bs, inLen := n }

/-- A user format selected. -/
def selected (geom : Word) (ctrl : CtrlBits) (s : State) : State :=
  { s with fmtId := 15, fmtGeom := geom, fmtCtrl := ctrl, fmtValid := true }

/-- A command word accepted. -/
def pending (w : Word) : State := { State.reset with cmd := w, busy := true }

/-- The first n palettes of the bank loaded, all alike. -/
def banked (p : Palette) (n : Nat) (s : State) : State :=
  { s with pbank := Vector.ofFn (fun j => if j.val < n then some p else none), bankLen := BitVec.ofNat 32 n }

/-- The user descriptor set. -/
def user (geom ctrl : Word) : State := { State.reset with ufmtGeom := geom, ufmtCtrl := ctrl }

/-- What f finds in the next state. -/
def onNext {α : Type} (o : Host.Outcome State Fault Refusal) (f : State → α) : Option α :=
  match o with
  | .next t => some (f t)
  | .fault _ => none
  | .refused _ => none

/-- The fault, if that is the outcome. -/
def onFault (o : Host.Outcome State Fault Refusal) : Option Fault :=
  match o with
  | .next _ => none
  | .fault f => some f
  | .refused _ => none

theorem next_of {o : Host.Outcome State Fault Refusal} {f : State → Bool} (h : onNext o f = some true) :
    ∃ t, o = .next t ∧ f t = true := by
  cases o with
  | next t => exact ⟨t, rfl, by simpa [onNext] using h⟩
  | fault f => cases h
  | refused r => cases h

theorem fault_of {o : Host.Outcome State Fault Refusal} {f : Fault} (h : onFault o = some f) : o = .fault f := by
  cases o with
  | next t => cases h
  | fault g => simpa [onFault] using h
  | refused r => cases h

/-! ## Well-formedness (30_encoding.md R117) -/

theorem test_line_selfmt : (CommandLine.mk "SELFMT" [15]).instr? = some (.selfmt 15) := by decide
theorem test_line_refuses_format_16 : (CommandLine.mk "SELFMT" [16]).WellFormed = false := by decide
theorem test_line_refuses_missing_operand : (CommandLine.mk "SELFMT" []).WellFormed = false := by decide
theorem test_line_refuses_extra_operand : (CommandLine.mk "NOP" [0]).WellFormed = false := by decide
theorem test_line_refuses_lower_case : (CommandLine.mk "decode" []).WellFormed = false := by decide
theorem test_line_refuses_unknown : (CommandLine.mk "HALT" []).WellFormed = false := by decide

/-! ## Decoding, the words written out bit by bit from R100 and R103 -/

theorem test_decode_nop : decode 0b00000000000000000000_0000_00000000 = .ok .nop := by decide
theorem test_decode_selfmt : decode 0b00000000000000000000_1010_00000001 = .ok (.selfmt 10) := by decide
theorem test_decode_ldbank : decode 0b00000000000000000000_0000_00000010 = .ok .ldbank := by decide
theorem test_decode_ldpal : decode 0b00000000000000000000_0000_00000011 = .ok .ldpal := by decide
theorem test_decode_resolve : decode 0b00000000000000000000_0000_00000100 = .ok .resolve := by decide
theorem test_decode_decode : decode 0b00000000000000000000_0000_00000101 = .ok .decode := by decide
theorem test_decode_deint : decode 0b00000000000000000000_0000_00000110 = .ok .deint := by decide
theorem test_decode_unpack : decode 0b00000000000000000000_0000_00000111 = .ok .unpack := by decide
theorem test_decode_reserved_opcode : decode 0x000000FF = .error (.reservedOpcode 0xFF) := by decide
theorem test_decode_fid_on_nop : decode 0x00000100 = .error (.strayFormatId 1) := by decide
theorem test_decode_rsv_bit_31 : decode 0x80000000 = .error (.reservedBits 0x80000) := by decide
theorem test_table_word : decodeTableWord 32 0x00000701 = some (.selfmt 7) := by decide

/-- The word placed by `withFetchWord` is the one the very next step runs. -/
theorem test_fetch_runs : onNext (step (State.reset.withFetchWord 32 0x00000801)) (fun t => (t.fmtId, t.fmtValid, t.done)) =
    some (8, true, true) := by decide

/-- A word of 2.1 that is not legal: ERRCODE 5, and CMD holds it. -/
theorem test_illegal_word : onNext (step (pending 0x00000F05)) (fun t => (t.errcodeWord, t.err, t.cmd)) =
    some (5, true, 0x00000F05) := by decide

/-! ## Commands -/

theorem test_nop_completes : onNext (exec .nop (pending 0)) (fun t => (t.busy, t.done, t.err)) =
    some (false, true, false) := by decide

/-- 2.6: FID 5 from the default ROM. -/
theorem test_selfmt_rom : onNext (exec (.selfmt 5) State.reset) (fun t => (t.fmtGeom, t.fmtCtrlWord)) =
    some (0x01CE0140, 0x80000008) := by decide

/-- 2.6: GEOMETRY comes before CAPACITY (W = 1028). -/
theorem test_selfmt_geometry_first : onNext (exec (.selfmt 15) (user 0x01010404 0x00000008))
    (fun t => (t.errcodeWord, t.fmtValid)) = some (7, false) := by decide

/-- 2.2: the 128-byte bank; entry 0 of slots 0 and 1. -/
theorem test_ldbank_two_blocks : onNext
    (exec .ldbank (loaded ((0x0F :: List.replicate 63 0) ++ (0x01 :: List.replicate 63 0)) 128))
    (fun t => (t.bankLen, (t.bankSlot 0)[0].r, (t.bankSlot 1)[0].r)) = some (2, 0xF0, 0x10) := by decide

/-- 2.2: the length is checked before the count. -/
theorem test_ldbank_length_first : onNext (exec .ldbank (loaded [] 1087)) (fun t => (t.errcodeWord, t.bankLen)) =
    some (3, 0) := by decide

/-- 2.2: entry i from (i, 15 - i, 0, 9). -/
theorem test_ldpal_entries : onNext
    (exec .ldpal (loaded ((List.range 16).flatMap fun i => [BitVec.ofNat 8 i, BitVec.ofNat 8 (15 - i), 0, 9]) 64))
    (fun t => (palx t.pal 0, palx t.pal 7, palx t.pal 255, t.palSrc.code)) =
    some (0x0000F000, 0x00708000, 0x00F00000, 4) := by decide

/-- 2.2: an unwritten first byte. -/
theorem test_ldpal_uninit : onFault (exec .ldpal (loaded [] 64)) = some (.uninitInput 0x020000) := by decide

/-- 2.3: a bank index out of bounds gives the grey ramp. -/
theorem test_resolve_grey : onNext (exec .resolve (selected 0x00080008 0x208 (banked gray 2 State.reset)))
    (fun t => (palx t.pal 8, t.palSrc.code)) = some (0x00888888, 3) := by decide

/-- 2.3: with no palette rule PAL stays and PAL_SRC is 0. -/
theorem test_resolve_none : onNext (exec .resolve (selected 0x00080200 0x1 State.reset))
    (fun t => (palx t.pal 8, t.palSrc.code, t.errcodeWord)) = some (0x00888888, 0, 0) := by decide

/-- 2.4: the 16 x 2 image; pixels 0, 3, 15 and 16. -/
theorem test_decode_bitplane : onNext (exec .decode (selected 0x00020010 0x8
    (loaded [0x80, 0x01, 0x40, 0x00, 0x20, 0x00, 0x10, 0xFF, 0xFF, 0xFF, 0x00, 0x00, 0xFF, 0xFF, 0x00, 0x00] 16)))
    (fun t => (t.outLen, t.mem.read obufBase, t.mem.read (obufBase + 3), t.mem.read (obufBase + 15),
      t.mem.read (obufBase + 16))) = some (32, some 1, some 8, some 9, some 5) := by decide

/-- 2.5: the 16 x 2 glyphs; pixels 0, 1, 10 and 24. -/
theorem test_decode_glyph : onNext (exec .decode (selected 0x00020010 0x1 (loaded [0x81, 0x3C, 0x00, 0xFF] 4)))
    (fun t => (t.outLen, t.mem.read obufBase, t.mem.read (obufBase + 1), t.mem.read (obufBase + 10),
      t.mem.read (obufBase + 24))) = some (32, some 255, some 0, some 255, some 255) := by decide

/-- 2.4. -/
theorem test_deint : onNext (exec .deint { State.reset with din := 0x12345678 }) (fun t => (t.doutLo, t.doutHi)) =
    some (0x0A61F530, 0) := by decide

/-- 2.5: DIN[31:8] is ignored. -/
theorem test_unpack : onNext (exec .unpack { State.reset with din := 0xFFFFFF3C }) (fun t => (t.doutLo, t.doutHi)) =
    some (0xFFFF0000, 0x0000FFFF) := by decide

/-! ## The bus (2.8) -/

theorem test_read_status_after_reset : onNext (hostRead .word 0x000008 State.reset) (fun t => t.busData) =
    some (some 0x00000060) := by decide
theorem test_read_palx : onNext (hostRead .word 0x000720 State.reset) (fun t => t.busData) =
    some (some 0x00FFFFFF) := by decide
theorem test_read_rom_format_5 : onNext (hostRead .word 0x000D28 State.reset) (fun t => t.busData) =
    some (some 0x01CE0140) := by decide
theorem test_read_word_of_bytes : onNext (hostRead .word 0x020000 (loaded [0x12, 0x56, 0x34, 0x00] 0)) (fun t => t.busData) =
    some (some 0x00345612) := by decide
theorem test_half_read_of_status : onFault (hostRead .half 0x000008 State.reset) = some (.hostBusError 8 2) := by decide
theorem test_misaligned_read : onFault (hostRead .word 0x020002 State.reset) = some (.hostBusError 0x020002 4) := by decide
theorem test_unmapped_read : onFault (hostRead .word 0x000050 State.reset) = some (.hostBusError 0x50 4) := by decide
theorem test_write_in_len_busy : onFault (hostWrite .word 0x000014 4 (pending 0)) = some (.hostAccessWhileBusy 0x14) := by
  decide
theorem test_overrun : onNext (hostWrite .word 0x000004 6 (pending 5)) (fun t => (t.cmd, t.ovr)) = some (5, true) := by decide

/-! ## Witnesses: encoding and steps -/

theorem legal_reset : legalParams State.reset.params = true := by decide

theorem witness_DecodeAndEncodeAgree :
    Instr.WellFormed (.selfmt 15) = true ∧ decode 0x00000F01 = .ok (.selfmt 15) := by decide

theorem witness_StepRunsTheDecodedCommand_scheduled : ∃ s : State, legalParams s.params = true ∧ s.busy = true ∧
    (s.schedule.head? = some .engine ∨ s.schedule = []) ∧ decode s.cmd = .ok (.selfmt 15) :=
  ⟨State.reset.accepted 0x00000F01, by decide, rfl, .inl rfl, by decide⟩

theorem witness_StepRunsTheDecodedCommand_unscheduled : ∃ s : State, legalParams s.params = true ∧ s.busy = true ∧
    (s.schedule.head? = some .engine ∨ s.schedule = []) ∧ decode s.cmd = .ok .unpack :=
  ⟨pending 7, by decide, rfl, .inr rfl, by decide⟩

/-- Opcode 7, the last legal one, and format ID 15, the last one. -/
theorem witness_PendingWordRunsExactlyWhenLegal_legal : ∀ w ∈ [(0x00000007 : Word), 0x00000F01],
    ∃ s : State, legalParams s.params = true ∧ s.busy = true ∧ s.schedule.head? = some .engine ∧ s.cmd = w ∧
      (w.extractLsb' 0 8).toNat ≤ 0x07 ∧ w.extractLsb' 12 20 = 0 ∧
      (w.extractLsb' 0 8 = 0x01 ∨ w.extractLsb' 8 4 = 0) := by
  intro w hw
  refine ⟨State.reset.accepted w, legal_reset, rfl, rfl, rfl, ?_⟩
  simp only [List.mem_cons, List.not_mem_nil, or_false] at hw
  rcases hw with rfl | rfl <;> decide

/-- The first reserved opcode, the lowest bit of RSV, and FID = 1 on opcode 0. -/
theorem witness_PendingWordRunsExactlyWhenLegal_illegal : ∀ w ∈ [(0x00000008 : Word), 0x00001001, 0x00000100],
    ∃ s : State, legalParams s.params = true ∧ s.busy = true ∧ s.schedule.head? = some .engine ∧ s.cmd = w ∧
      ¬ ((w.extractLsb' 0 8).toNat ≤ 0x07 ∧ w.extractLsb' 12 20 = 0 ∧
        (w.extractLsb' 0 8 = 0x01 ∨ w.extractLsb' 8 4 = 0)) := by
  intro w hw
  refine ⟨State.reset.accepted w, legal_reset, rfl, rfl, rfl, ?_⟩
  simp only [List.mem_cons, List.not_mem_nil, or_false] at hw
  rcases hw with rfl | rfl | rfl <;> decide

theorem witness_StepRunsTheHostOperation :
    ∀ op ∈ [HostOp.read .word 0x000008, .write .word 0x000014 64, .wait],
      ∃ s : State, legalParams s.params = true ∧ s.schedule.head? = some .host ∧ s.program = [op] :=
  fun op _ => ⟨{ State.reset with schedule := [.host], program := [op] }, legal_reset, rfl, rfl⟩

theorem witness_ResetTurnSetsTheResetState : ∃ s : State, legalParams s.params = true ∧ s.schedule.head? = some .reset :=
  ⟨{ pending 5 with schedule := [.reset] }, by decide, rfl⟩

theorem witness_CmdWriteAcceptsOrSetsOverrun : State.reset.busy = false ∧ (pending 5).busy = true := by decide

theorem witness_PendingCommandEndsWithinTheSchedule : ∃ s : State, legalParams s.params = true ∧ s.busy = true ∧
    s.schedule = [.host, .host] :=
  ⟨{ pending 5 with schedule := [.host, .host] }, by decide, rfl, rfl⟩

/-- One byte less input buffer than R10 allows. -/
theorem witness_StepRefusesExactlyIllegalConfigurations :
    legalParams (State.initial { defaultParams with ibufSize := 73919 }).params = false := by decide

/-! ## Witnesses: commands -/

theorem witness_DeintIsTheDecodeOfOneGroup : ∃ t, exec .deint State.reset = .next t := ⟨_, rfl⟩

theorem witness_UnpackIsTheDecodeOfOneByte : ∃ t, exec .unpack State.reset = .next t := ⟨_, rfl⟩

/-- The user format at exactly OBUF_SIZE pixels. -/
theorem witness_SelfmtSelectsOrReports_user : ∃ (s : State) (g c : Word), s.ufmtGeom = g ∧ s.ufmtCtrl = c ∧
    legalDesc (c.setWidth 31) = true ∧ (g.extractLsb' 0 16).toNat % 8 = 0 ∧
    (g.extractLsb' 0 16).toNat * (g.extractLsb' 16 16).toNat = s.params.obufSize :=
  ⟨user 0x01000400 0x00000008, _, _, rfl, rfl, by decide⟩

/-- Format ID 8, the last valid entry of the default ROM. -/
theorem witness_SelfmtSelectsOrReports_rom : State.reset.params.formatRom[(8 : FormatId).toNat] = ⟨0x00080200, 0x80000001⟩ ∧
    (8 : FormatId) ≠ 15 ∧ (0x80000001 : Word).getLsbD 31 = true ∧ legalDesc ((0x80000001 : Word).setWidth 31) = true ∧
    ((0x00080200 : Word).extractLsb' 0 16).toNat % 8 = 0 ∧
    ((0x00080200 : Word).extractLsb' 0 16).toNat * ((0x00080200 : Word).extractLsb' 16 16).toNat ≤
      State.reset.params.obufSize := by decide

/-- Format ID 9, the first empty entry of the default ROM. -/
theorem witness_SelfmtSelectsOrReports_unknown : State.reset.params.formatRom[(9 : FormatId).toNat] = ⟨0, 0⟩ ∧
    (9 : FormatId) ≠ 15 ∧ (0 : Word).getLsbD 31 = false := by decide

/-- FixedBuiltin(3). -/
theorem witness_SelfmtSelectsOrReports_illegal : ∃ (s : State) (g c : Word), s.ufmtGeom = g ∧ s.ufmtCtrl = c ∧
    legalDesc (c.setWidth 31) = false :=
  ⟨user 0x00080008 0x00000304, _, _, rfl, rfl, by decide⟩

/-- W = 9. -/
theorem witness_SelfmtSelectsOrReports_geometry : ∃ (s : State) (g c : Word), s.ufmtGeom = g ∧ s.ufmtCtrl = c ∧
    legalDesc (c.setWidth 31) = true ∧ (g.extractLsb' 0 16).toNat % 8 ≠ 0 :=
  ⟨user 0x00010009 0x00000008, _, _, rfl, rfl, by decide⟩

/-- One row more than fits. -/
theorem witness_SelfmtSelectsOrReports_capacity : ∃ (s : State) (g c : Word), s.ufmtGeom = g ∧ s.ufmtCtrl = c ∧
    legalDesc (c.setWidth 31) = true ∧ (g.extractLsb' 0 16).toNat % 8 = 0 ∧
    s.params.obufSize < (g.extractLsb' 0 16).toNat * (g.extractLsb' 16 16).toNat :=
  ⟨user 0x01010400 0x00000008, _, _, rfl, rfl, by decide⟩

theorem read_loaded {bs : List Byte} {n : Word} {a : Nat} :
    (loaded bs n).mem.read (ibufBase + a) = bs[a]? := by
  have hu : Memory.unlisted (ibufBase + a) = none :=
    Memory.unlisted_eq_none (Nat.le_trans (by decide) (Nat.le_add_right _ _))
  have hr : (loaded bs n).mem.read (ibufBase + a) = (Memory.cells ibufBase bs).lookup (ibufBase + a) := by
    unfold Memory.read
    rw [hu]
    rfl
  rw [hr, Memory.lookup_cells]
  simp

theorem read_replicate {n : Word} {k a : Nat} {b : Byte} (h : a < k) :
    (loaded (List.replicate k b) n).mem.read (ibufBase + a) = some b := by
  rw [read_loaded]
  simp [h]

/-- BANK_MAX blocks. -/
theorem witness_LdbankLoadsOrReports_loads : ∃ (s : State) (M : Nat → Byte), s.inLen.toNat ≤ s.params.ibufSize ∧
    s.inLen.toNat % 64 = 0 ∧ s.inLen.toNat / 64 = s.params.bankMax ∧
    ∀ j i c, j < s.inLen.toNat / 64 → i < 16 → c < 3 →
      s.mem.read (ibufBase + (64 * j + 4 * i + c)) = some (M (64 * j + 4 * i + c)) := by
  refine ⟨loaded (List.replicate 1024 7) 1024, fun _ => 7, by decide, by decide, by decide, fun j i c hj hi hc => ?_⟩
  have : j < 16 := hj
  exact read_replicate (by omega)

/-- One byte more than IBUF holds; one byte short of a block; one block more than BANK_MAX. -/
theorem witness_LdbankLoadsOrReports_fails :
    (State.reset.params.ibufSize < (loaded [] 0x00020001).inLen.toNat) ∧
    ((loaded [] 63).inLen.toNat ≤ State.reset.params.ibufSize ∧ (loaded [] 63).inLen.toNat % 64 ≠ 0) ∧
    ((loaded [] 1088).inLen.toNat ≤ State.reset.params.ibufSize ∧ (loaded [] 1088).inLen.toNat % 64 = 0 ∧
      State.reset.params.bankMax < (loaded [] 1088).inLen.toNat / 64) := by decide

theorem witness_LdpalLoadsOrReports_loads : ∃ (s : State) (M : Nat → Byte), 64 ≤ s.params.ibufSize ∧ s.inLen.toNat = 64 ∧
    ∀ i c, i < 16 → c < 3 → s.mem.read (ibufBase + (4 * i + c)) = some (M (4 * i + c)) :=
  ⟨loaded (List.replicate 64 7) 64, fun _ => 7, by decide, by decide, fun i c hi hc => read_replicate (by omega)⟩

theorem witness_LdpalLoadsOrReports_fails :
    (State.reset.params.ibufSize < (loaded [] 0x00020001).inLen.toNat) ∧
    ((loaded [] 65).inLen.toNat ≤ State.reset.params.ibufSize ∧ (loaded [] 65).inLen.toNat ≠ 64) := by decide

theorem witness_ResolveSelectsThePalette_noFormat : State.reset.fmtValid = false := by decide

/-- Built-in 2, the last one. -/
theorem witness_ResolveSelectsThePalette_builtin : ∃ (s : State) (k : Fin 3), s.fmtValid = true ∧
    s.fmtCtrl.extractLsb' 2 2 = 1 ∧ s.fmtCtrl.extractLsb' 8 8 = BitVec.ofNat 8 k :=
  ⟨selected 0 0x204 State.reset, 2, by decide⟩

/-- The last slot of a bank of two. -/
theorem witness_ResolveSelectsThePalette_bank : ∃ (s : State) (p : Palette), s.fmtValid = true ∧
    s.fmtCtrl.extractLsb' 2 2 = 2 ∧ (s.fmtCtrl.extractLsb' 8 8).toNat < s.bankLen.toNat ∧
    s.pbank[(s.fmtCtrl.extractLsb' 8 8).toNat]? = some (some p) :=
  ⟨selected 0 0x108 (banked gray 2 State.reset), gray, by decide, by decide, by decide, by decide⟩

/-- The first index past a bank of two. -/
theorem witness_ResolveSelectsThePalette_grey : ∃ s : State, s.fmtValid = true ∧ s.fmtCtrl.extractLsb' 2 2 = 2 ∧
    s.bankLen.toNat = (s.fmtCtrl.extractLsb' 8 8).toNat :=
  ⟨selected 0 0x208 (banked gray 2 State.reset), by decide⟩

theorem witness_ResolveSelectsThePalette_keep : ∃ s : State, s.fmtValid = true ∧ s.fmtCtrl.extractLsb' 2 2 = 0 :=
  ⟨selected 0 0x1 State.reset, by decide⟩

/-- 8 x 1 pixels from exactly the four bytes they need. -/
theorem witness_DecodeWritesBitplanePixels : ∃ (s : State) (M : Nat → Byte) (W H : Nat),
    W = (s.fmtGeom.extractLsb' 0 16).toNat ∧ H = (s.fmtGeom.extractLsb' 16 16).toNat ∧
    s.fmtValid = true ∧ legalDesc s.fmtCtrl = true ∧ s.fmtCtrl.getLsbD 0 = false ∧ W % 8 = 0 ∧
    s.inLen.toNat ≤ s.params.ibufSize ∧ W * H / 2 = s.inLen.toNat ∧
    ∀ a, a < W * H / 2 → s.mem.read (ibufBase + a) = some (M a) :=
  ⟨selected 0x00010008 0x8 (loaded (List.replicate 4 0x80) 4), fun _ => 0x80, 8, 1, by decide, by decide, by decide, by decide,
    by decide, by decide, by decide, by decide, fun _ ha => read_replicate (n := 4) ha⟩

/-- 8 x 1 pixels from exactly the one byte they need. -/
theorem witness_DecodeWritesGlyphPixels : ∃ (s : State) (M : Nat → Byte) (W H : Nat),
    W = (s.fmtGeom.extractLsb' 0 16).toNat ∧ H = (s.fmtGeom.extractLsb' 16 16).toNat ∧
    s.fmtValid = true ∧ s.fmtCtrl.getLsbD 0 = true ∧ W % 8 = 0 ∧
    s.inLen.toNat ≤ s.params.ibufSize ∧ W * H / 8 = s.inLen.toNat ∧
    ∀ a, a < W * H / 8 → s.mem.read (ibufBase + a) = some (M a) :=
  ⟨selected 0x00010008 0x1 (loaded (List.replicate 1 0x80) 1), fun _ => 0x80, 8, 1, by decide, by decide, by decide, by decide,
    by decide, by decide, by decide, fun _ ha => read_replicate (n := 1) ha⟩

/-- No format; a format and one byte more than IBUF holds; one byte less than the format needs, of either kind. -/
theorem witness_DecodeReportsItsFirstError :
    (∃ s : State, s.fmtValid = false) ∧
    (∃ s : State, s.fmtValid = true ∧ s.params.ibufSize < s.inLen.toNat) ∧
    (∃ s : State, s.fmtValid = true ∧ s.inLen.toNat ≤ s.params.ibufSize ∧ s.fmtCtrl.getLsbD 0 = false ∧
      s.inLen.toNat < (s.fmtGeom.extractLsb' 0 16).toNat * (s.fmtGeom.extractLsb' 16 16).toNat / 2) ∧
    ∃ s : State, s.fmtValid = true ∧ s.inLen.toNat ≤ s.params.ibufSize ∧ s.fmtCtrl.getLsbD 0 = true ∧
      s.inLen.toNat < (s.fmtGeom.extractLsb' 0 16).toNat * (s.fmtGeom.extractLsb' 16 16).toNat / 8 :=
  ⟨⟨State.reset, by decide⟩, ⟨selected 0x00010008 0x8 (loaded [] 0x00020001), by decide⟩,
    ⟨selected 0x00010008 0x8 (loaded [] 3), by decide⟩, ⟨selected 0x00010008 0x1 (loaded [] 0), by decide⟩⟩

theorem witness_UnwrittenInputIsAFaultExactlyWhenRead :
    (∃ s : State, s.inLen.toNat = 64 ∧ 64 ≤ s.params.ibufSize) ∧
    (∃ s : State, s.inLen.toNat ≤ s.params.ibufSize ∧ s.inLen.toNat % 64 = 0 ∧ s.inLen.toNat / 64 = s.params.bankMax) ∧
    ∃ (s : State) (need : Nat),
      need = (if s.fmtCtrl.getLsbD 0 then
          (s.fmtGeom.extractLsb' 0 16).toNat * (s.fmtGeom.extractLsb' 16 16).toNat / 8
        else (s.fmtGeom.extractLsb' 0 16).toNat * (s.fmtGeom.extractLsb' 16 16).toNat / 2) ∧
      s.fmtValid = true ∧ s.inLen.toNat ≤ s.params.ibufSize ∧ need = s.inLen.toNat :=
  ⟨⟨loaded [] 64, by decide⟩, ⟨loaded [] 1024, by decide⟩, ⟨selected 0x00010008 0x8 (loaded [1, 2, 3] 4), 4, by decide⟩⟩

theorem witness_UninitInputNamesAnUnwrittenByte :
    exec .decode (selected 0x00010008 0x8 (loaded [1, 2, 3] 4)) = .fault (.uninitInput 0x020003) := fault_of (by decide)

/-- LDBANK of one block with only the last byte it reads unwritten, and LDPAL with nothing written. -/
theorem witness_UninitInputNamesAnUnwrittenByte_loads :
    exec .ldbank (loaded (List.replicate 62 7) 64) = .fault (.uninitInput 0x02003E) ∧
      exec .ldpal (loaded [] 64) = .fault (.uninitInput 0x020000) := ⟨fault_of (by decide), fault_of (by decide)⟩

/-- Two memories that differ in fourth bytes only. -/
theorem witness_PaletteLoadsIgnoreTheFourthByte : ∃ (s : State) (m : Memory), m ≠ s.mem ∧
    (∀ i c, i < 16 → c < 3 → Memory.read m (ibufBase + (4 * i + c)) = s.mem.read (ibufBase + (4 * i + c))) ∧
    (∃ t, exec .ldpal s = .next t ∧ (!t.err) = true) ∧
    (∀ j i c, j < s.inLen.toNat / 64 → i < 16 → c < 3 →
      Memory.read m (ibufBase + (64 * j + 4 * i + c)) = s.mem.read (ibufBase + (64 * j + 4 * i + c))) ∧
    ∃ t, exec .ldbank s = .next t ∧ (!t.err) = true := by
  have h : ∀ i, i < 16 → ∀ c, c < 3 →
      Memory.read (Memory.cells ibufBase ((List.range 16).flatMap fun _ => [1, 2, 3, 9])) (ibufBase + (4 * i + c)) =
        (loaded ((List.range 16).flatMap fun _ => [1, 2, 3, 4]) 64).mem.read (ibufBase + (4 * i + c)) := by decide
  refine ⟨loaded ((List.range 16).flatMap fun _ => [1, 2, 3, 4]) 64,
    Memory.cells ibufBase ((List.range 16).flatMap fun _ => [1, 2, 3, 9]), by decide, fun i c hi hc => h i hi c hc,
    next_of (by decide), fun j i c hj hi hc => ?_, next_of (by decide)⟩
  have : j < 1 := hj
  obtain rfl : j = 0 := by omega
  simpa using h i hi c hc

/-- Two memories that differ in the fifth byte, which an 8 x 1 image does not need. -/
theorem witness_DecodeIgnoresBytesPastItsNeed : ∃ (s : State) (m : Memory), m ≠ s.mem ∧
    (s.fmtGeom.extractLsb' 0 16).toNat % 8 = 0 ∧
    (∀ a, a < (if s.fmtCtrl.getLsbD 0 then
          (s.fmtGeom.extractLsb' 0 16).toNat * (s.fmtGeom.extractLsb' 16 16).toNat / 8
        else (s.fmtGeom.extractLsb' 0 16).toNat * (s.fmtGeom.extractLsb' 16 16).toNat / 2) →
      Memory.read m (ibufBase + a) = s.mem.read (ibufBase + a)) ∧
    ∃ t, exec .decode s = .next t ∧ (!t.err) = true :=
  ⟨selected 0x00010008 0x8 (loaded [1, 2, 3, 4, 5] 5), Memory.cells ibufBase [1, 2, 3, 4, 6], by decide, by decide, by decide,
    next_of (by decide)⟩

/-! ## Witnesses: pixels and palettes -/

theorem witness_BitplaneDecodeGivesIndices : 8 % 8 = 0 := by decide

theorem witness_GlyphDecodeGivesBlackOrWhite : 8 % 8 = 0 ∧ 7 < 8 ∧ 0 < 1 := by decide

/-- A selected 8 x 1 format with its input and a bank of two written palettes, by palette rule. -/
def working (ctrl : CtrlBits) : State :=
  selected 0x00010008 ctrl (banked (Vector.replicate 16 ⟨0, 16, 240⟩) 2 (loaded [1, 2, 3, 4] 4))

theorem working_inv {ctrl : CtrlBits} (h : legalDesc ctrl = true) : (working ctrl).Inv where
  params := legal_reset
  mem := (by decide : (loaded [1, 2, 3, 4] 4).mem.wf State.reset.params)
  err := rfl
  bankLen := (by decide : (2 : Nat) ≤ 16)
  bankWritten := (by decide : ∀ j : Fin 16, j.val < 2 → (working 8).pbank[j].isSome = true)
  fmtLegal _ := h
  fmtFits _ := (by decide : geometryFits 262144 0x00010008 = true)
  outLen := Nat.zero_le _

theorem working_paletteInv (ctrl : CtrlBits) : (working ctrl).PaletteInv where
  gray _ := rfl
  raw h := absurd h (by change ¬ (PalSrc.gray = _ ∨ PalSrc.gray = _ ∨ PalSrc.gray = _); decide)
  bank j p h := by
    have h' : (if j.val < 2 then some (Vector.replicate 16 (⟨0, 16, 240⟩ : Color)) else none) = some p := by
      rw [← h]
      simp [working, selected, banked]
    split at h'
    · cases h'
      intro i
      simp only [Fin.getElem_fin, Vector.getElem_replicate]
      unfold rawChannel
      decide
    · cases h'

/-- A bank index at BANK_LEN, which gives the grey ramp. -/
theorem witness_ResolvedPaletteLaw_grey : ∃ s : State, s.Inv ∧ s.PaletteInv ∧
    (∃ t, exec .resolve s = .next t ∧ (!t.err && t.palSrc == .gray) = true) ∧ s.fmtCtrl.getLsbD 0 = false :=
  ⟨working 0x208, working_inv (by decide), working_paletteInv _, next_of (by decide), by decide⟩

/-- A bank index just below BANK_LEN, which gives the bank's palette. -/
theorem witness_ResolvedPaletteLaw_bank : ∃ s : State, s.Inv ∧ s.PaletteInv ∧
    (∃ t, exec .resolve s = .next t ∧ (!t.err && t.palSrc == .bank) = true) ∧ s.fmtCtrl.getLsbD 0 = false :=
  ⟨working 0x108, working_inv (by decide), working_paletteInv _, next_of (by decide), by decide⟩

theorem witness_ZeroImageDecodesToEntryZero : ∃ s : State, s.fmtValid = true ∧ s.fmtGeom = 0x00080008 ∧
    legalDesc s.fmtCtrl = true ∧ s.fmtCtrl.getLsbD 0 = false ∧ 32 = s.inLen.toNat ∧ s.inLen.toNat ≤ s.params.ibufSize ∧
    ∀ a, a < 32 → s.mem.read (ibufBase + a) = some 0 :=
  ⟨selected 0x00080008 0x8 (loaded (List.replicate 32 0) 32), by decide, by decide, by decide, by decide, by decide, by decide,
    fun _ ha => read_replicate (n := 32) ha⟩

/-! ## Witnesses: whole-machine rules -/

/-- A DECODE that writes pixels, a palette and OUT_LEN. -/
theorem witness_StepKeepsTheInvariant : ∃ s : State, s.Inv ∧ s.PaletteInv ∧
    ∃ t, step s = .next t ∧ (t.outLen == 8 && t.palSrc == .bank) = true := by
  refine ⟨{ working 0x108 with cmd := 5, busy := true }, ?_, ?_, next_of (by decide)⟩
  · have h := working_inv (ctrl := 0x108) (by decide)
    exact ⟨h.params, h.mem, h.err, h.bankLen, h.bankWritten, h.fmtLegal, h.fmtFits, h.outLen⟩
  · have h := working_paletteInv 0x108
    exact ⟨h.gray, h.raw, h.bank⟩

/-- The same state meets the hypotheses of StepKeepsPalSrcTrue. -/
theorem witness_StepKeepsPalSrcTrue : ∃ s t : State, s.Inv ∧ s.PaletteInv ∧ step s = .next t :=
  let ⟨s, h1, h2, t, h3, _⟩ := witness_StepKeepsTheInvariant
  ⟨s, t, h1, h2, h3⟩

/-- For each command a state in which it completes without error: for the statements about every command. -/
theorem witness_EveryCompletionReports : ∀ i ∈ [Instr.nop, .selfmt 8, .ldbank, .ldpal, .resolve, .decode, .deint, .unpack],
    ∃ s t : State, exec i s = .next t ∧ (!t.err) = true := by
  intro i hi
  have key : ∀ j ∈ [Instr.nop, .selfmt 8, .ldbank, .ldpal, .resolve, .decode, .deint, .unpack],
      onNext (exec j (selected 0x00010008 0x8 (loaded (List.replicate 64 1) 64))) (fun t => !t.err) = some true := by decide
  exact ⟨_, next_of (key i hi)⟩

theorem witness_CommandsReportTheirOwnErrors : ∃ s t : State, exec .ldbank s = .next t ∧ (t.errCode == .formatBankLen) = true :=
  ⟨loaded [] 63, next_of (by decide)⟩

theorem witness_CommandsWriteOnlyTheirColumn : ∃ s t : State, exec .decode s = .next t ∧ (t.outLen == 8) = true :=
  ⟨working 0x8, next_of (by decide)⟩

/-- The three commands that leave a mark when they fail. -/
theorem witness_FailedCommandsWriteOnlyTheirMark : ∀ i ∈ [Instr.selfmt 9, .ldbank, .decode],
    ∃ s t : State, exec i s = .next t ∧ t.err = true := by
  intro i hi
  have key : ∀ j ∈ [Instr.selfmt 9, .ldbank, .decode],
      onNext (exec j (selected 0x00080008 0x8 (loaded [] 31))) (fun t => t.err) = some true := by decide
  exact ⟨_, next_of (key i hi)⟩

theorem witness_DecodeStaysInTheBuffers : ∃ s t : State, s.Inv ∧ exec .decode s = .next t ∧ (!t.err) = true :=
  ⟨working 0x8, let ⟨t, h⟩ := next_of (f := fun t => !t.err) (by decide); ⟨t, working_inv (by decide), h⟩⟩

/-- Format ID 14, the last that is not the user's. -/
theorem witness_UserDescriptorIsLatched : Instr.selfmt 14 ≠ .selfmt 15 ∧ ∃ t, exec (.selfmt 14) (user 0x00080008 8) = .next t :=
  ⟨by decide, let ⟨t, h, _⟩ := next_of (f := fun _ => true) (by decide); ⟨t, h⟩⟩

/-- A bus error, an access while busy, and an unwritten input byte, each from a state with the invariant. -/
theorem witness_FaultsAreThoseOfTheSpec :
    (∃ s : State, s.Inv ∧ step s = .fault (.hostBusError 0x4C 4)) ∧
    (∃ s : State, s.Inv ∧ step s = .fault (.hostAccessWhileBusy 0x14)) ∧
    ∃ s : State, s.Inv ∧ step s = .fault (.uninitInput 0x020004) := by
  have h := working_inv (ctrl := 8) (by decide)
  refine ⟨⟨{ working 8 with program := [.read .word 0x4C] }, ?_, fault_of (by decide)⟩,
    ⟨{ working 8 with busy := true, schedule := [.host], program := [.read .word 0x14] }, ?_, fault_of (by decide)⟩,
    ⟨{ working 8 with cmd := 3, busy := true, inLen := 64 }, ?_, fault_of (by decide)⟩⟩ <;>
  exact ⟨h.params, h.mem, h.err, h.bankLen, h.bankWritten, h.fmtLegal, h.fmtFits, h.outLen⟩

theorem witness_ValidRomFormatsSelect : (8 : FormatId).toNat < 15 ∧ legalParams State.reset.params = true ∧
    State.reset.params.formatRom[(8 : FormatId).toNat].ctrl.getLsbD 31 = true := by decide

/-! ## Witnesses: the host bus -/

theorem mapped_reset {a : Nat} (h : a < 0x4C ∨ (0x020000 ≤ a ∧ a < 0x040000)) : mappedByte State.reset.params a := by
  unfold mappedByte
  change a < 0x00004C ∨ _ ∨ _ ∨ _ ∨ _ ∨ (0x020000 ≤ a ∧ a < 0x020000 + 131072) ∨ _
  omega

theorem noError_word {a : Nat} (h : a + 3 < 0x4C ∨ (0x020000 ≤ a ∧ a + 3 < 0x040000)) (h4 : a % 4 = 0) :
    ¬ busErrorAt State.reset.params .word a := by
  rintro (⟨k, hk, hm⟩ | ha | ⟨_, hw⟩)
  · have : k < 4 := hk
    exact hm (mapped_reset (by omega))
  · exact ha h4
  · exact hw rfl

/-- Both sides of each statement occur: the last register word is no error, the word after it is one. -/
theorem witness_BusErrorsAreThoseOfTheMap : legalParams State.reset.params = true ∧
    ¬ busErrorAt State.reset.params .word 0x48 ∧ busErrorAt State.reset.params .word 0x4C := by
  refine ⟨by decide, noError_word (by decide) (by decide), .inl ⟨0, by decide, ?_⟩⟩
  unfold mappedByte
  decide

theorem noError_rom {a : Nat} (h : (0xC00 ≤ a ∧ a + 3 < 0xCC0) ∨ (0xD00 ≤ a ∧ a + 3 < 0xD80))
    (h4 : a % 4 = 0) : ¬ busErrorAt State.reset.params .word a := by
  rintro (⟨k, hk, hm⟩ | ha | ⟨_, hw⟩)
  · have : k < 4 := hk
    exact hm (by unfold mappedByte; omega)
  · exact ha h4
  · exact hw rfl

/-- CFG_BANK is the last register the busy host may read, IN_LEN the first it may not; CTRL is the last it may write, IN_LEN
the first it may not. -/
theorem witness_BusyAllowsOnlyTheListedAccesses : legalParams (pending 0).params = true ∧ (pending 0).busy = true ∧
    (¬ busErrorAt (pending 0).params .word 0x48 ∧ 0x48 ∈ [0x00, 0x04, 0x08, 0x0C, 0x10, 0x40, 0x44, 0x48]) ∧
    (¬ busErrorAt (pending 0).params .word 0x10 ∧ 0x10 ∈ [0x04, 0x08, 0x10]) ∧
    (¬ busErrorAt (pending 0).params .word 0x14 ∧ 0x14 ∉ [0x04, 0x08, 0x10] ∧
      ¬ (0x14 ∈ [0x00, 0x04, 0x08, 0x0C, 0x10, 0x40, 0x44, 0x48] ∨ (0x000C00 ≤ 0x14 ∧ 0x14 < 0x000D80))) :=
  ⟨by decide, rfl, ⟨noError_word (by decide) (by decide), by decide⟩, ⟨noError_word (by decide) (by decide), by decide⟩,
    noError_word (by decide) (by decide), by decide, by decide⟩

/-- The first word of BROM and the last of FROM, which the busy host may read and not write; CFG_BANK, which it may not write. -/
theorem witness_BusyAllowsOnlyTheListedAccesses_roms : legalParams (pending 0).params = true ∧ (pending 0).busy = true ∧
    (¬ busErrorAt (pending 0).params .word 0xC00 ∧ (0x000C00 ≤ 0xC00 ∧ 0xC00 < 0x000D80) ∧ 0xC00 ∉ [0x04, 0x08, 0x10]) ∧
    (¬ busErrorAt (pending 0).params .word 0xD7C ∧ (0x000C00 ≤ 0xD7C ∧ 0xD7C < 0x000D80) ∧ 0xD7C ∉ [0x04, 0x08, 0x10]) ∧
    (¬ busErrorAt (pending 0).params .word 0x48 ∧ 0x48 ∉ [0x04, 0x08, 0x10]) :=
  ⟨by decide, rfl, ⟨noError_rom (by decide) (by decide), by decide, by decide⟩,
    ⟨noError_rom (by decide) (by decide), by decide, by decide⟩, noError_word (by decide) (by decide), by decide⟩

theorem witness_ReadsHaveNoSideEffectsAndRepeat : ∃ t, hostRead .word 0x000048 State.reset = .next t :=
  let ⟨t, h, _⟩ := next_of (f := fun _ => true) (by decide)
  ⟨t, h⟩

/-- The last byte of IBUF, which nothing has written. -/
theorem witness_ReadsHaveNoSideEffectsAndRepeat_unwritten : State.reset.mem.read 0x03FFFF = none ∧
    ∃ t, hostRead .byte 0x03FFFF State.reset = .next t :=
  ⟨by decide, let ⟨t, h, _⟩ := next_of (f := fun _ => true) (by decide); ⟨t, h⟩⟩

/-- The last word of IBUF. -/
theorem witness_BufferWriteStoresItsBytes : legalParams State.reset.params = true ∧ State.reset.busy = false ∧
    ¬ busErrorAt State.reset.params .word (0x03FFFC : Addr).toNat ∧ 0x020000 ≤ (0x03FFFC : Addr).toNat :=
  ⟨by decide, rfl, noError_word (by decide) (by decide), by decide⟩

/-- Four bytes at the start of IBUF, read as one word. -/
theorem witness_BufferReadReturnsWhatWasWritten_bytes : ∃ (s : State) (b : Nat → Byte), legalParams s.params = true ∧
    s.busy = false ∧ ¬ busErrorAt s.params .word (0x020000 : Addr).toNat ∧ 0x020000 ≤ (0x020000 : Addr).toNat ∧
    ∀ k, k < Width.word.bytes → s.mem.read ((0x020000 : Addr).toNat + k) = some (b k) :=
  ⟨loaded [0x12, 0x56, 0x34, 0x00] 0, fun k => [0x12, 0x56, 0x34, 0x00].getD k 0, by decide, rfl,
    noError_word (by decide) (by decide), by decide, by decide⟩

/-- The last byte of OBUF of the default size. -/
theorem witness_BufferReadReturnsWhatWasWritten_obuf : legalParams State.reset.params = true ∧ State.reset.busy = false ∧
    0x020000 ≤ (0x07FFFF : Addr).toNat ∧ ∃ t, hostWrite .byte 0x07FFFF 0x5A State.reset = .next t :=
  ⟨by decide, rfl, by decide, let ⟨t, h, _⟩ := next_of (f := fun _ => true) (by decide); ⟨t, h⟩⟩

theorem witness_BufferReadReturnsWhatWasWritten : legalParams State.reset.params = true ∧ State.reset.busy = false ∧
    0x020000 ≤ (0x03FFFC : Addr).toNat ∧ ∃ t, hostWrite .word 0x03FFFC 0x12345678 State.reset = .next t :=
  ⟨by decide, rfl, by decide, let ⟨t, h, _⟩ := next_of (f := fun _ => true) (by decide); ⟨t, h⟩⟩

/-- FMT_GEOM. -/
theorem witness_ReadOnlyWritesAreIgnored : legalParams State.reset.params = true ∧ State.reset.busy = false ∧
    ¬ busErrorAt State.reset.params .word (0x000024 : Addr).toNat ∧ (0x000024 : Addr).toNat < 0x020000 ∧
    (0x000024 : Addr).toNat ∉ [0x04, 0x08, 0x10, 0x14, 0x2C, 0x30, 0x34] :=
  ⟨by decide, rfl, noError_word (by decide) (by decide), by decide, by decide⟩

theorem witness_WritableRegistersStoreAndReadBack : State.reset.busy = false := by decide

theorem witness_ReadOnlyRegistersReadTheirState : State.reset.busy = false := by decide

theorem witness_PalxWindowShowsThePalette : State.reset.busy = false ∧ 255 < 256 := by decide

/-- The last slot of a bank of two. -/
theorem witness_PbankWindowShowsTheLoadedBank : ∃ (s : State) (j : Fin 16) (p : Palette), legalParams s.params = true ∧
    s.busy = false ∧ j.val < s.bankLen.toNat ∧ s.bankLen.toNat ≤ s.params.bankMax ∧ s.pbank[j] = some p :=
  ⟨working 8, 1, _, by decide, by decide, by decide, by decide, by simp [working, selected, banked]; rfl⟩

/-- The last byte of built-in 2, and its last word. -/
theorem witness_RomWindowsShowTheRoms : legalParams State.reset.params = true ∧
    (191 + Width.bytes .byte ≤ 192 ∧ 191 % Width.bytes .byte = 0) ∧ 188 + Width.bytes .word ≤ 192 ∧
    188 % Width.bytes .word = 0 := by decide

end Sys2Proof.Tests
end

section
/-! SUPPORT. The constraints of 00_scope.md R10 on a configuration, taken apart, and the default FORMAT_ROM held to them. -/

namespace Sys2Proof.Machine

/-- `legalParams` as the rows of the table of R10. -/
theorem legalParams_iff (p : Params) :
    legalParams p = true ↔
      (73920 ≤ p.ibufSize ∧ p.ibufSize ≤ 0x20000) ∧ (147840 ≤ p.obufSize ∧ p.obufSize ≤ 0x40000) ∧
        (1 ≤ p.bankMax ∧ p.bankMax ≤ 16) ∧ ∀ d ∈ p.formatRom.toList, romEntryLegal p.obufSize d = true := by
  simp only [legalParams, Bool.and_eq_true, decide_eq_true_eq, List.all_eq_true, and_assoc]

/-- A valid FORMAT_ROM entry of a legal configuration has a legal descriptor whose pixels fit (R10). -/
theorem validRomEntry_legal {p : Params} (hp : legalParams p = true) {k : Nat} (hk : k < 15)
    (hv : p.formatRom[k].ctrl.getLsbD 31 = true) :
    legalDesc (p.formatRom[k].ctrl.setWidth 31) = true ∧ geometryFits p.obufSize p.formatRom[k].geom = true := by
  obtain ⟨_, _, _, hrom⟩ := (legalParams_iff p).mp hp
  have hentry : romEntryLegal p.obufSize p.formatRom[k] = true :=
    hrom _ (Vector.mem_toList_iff.mpr (Vector.getElem_mem hk))
  simpa only [romEntryLegal, hv, Bool.not_true, Bool.false_or, Bool.and_eq_true] using hentry

/-- The CTRL word of a bank reference is a legal descriptor, whatever the bank index (R115 shape (b), R221). -/
theorem legalDesc_bankCtrl (index : Byte) : legalDesc ((bankCtrl index).setWidth 31) = true := by
  revert index; decide

@[simp] theorem bankCtrl_valid (index : Byte) : (bankCtrl index).getLsbD 31 = true := by
  simp [bankCtrl]

/-- A bank reference is a legal entry exactly when its pixels fit, whatever the bank index. -/
theorem romEntryLegal_bankCtrl (obufSize : Nat) (geom : Word) (index : Byte) :
    romEntryLegal obufSize ⟨geom, bankCtrl index⟩ = geometryFits obufSize geom := by
  simp [romEntryLegal, legalDesc_bankCtrl]

theorem defaultParams_legal : legalParams defaultParams = true := by decide

/-- The bank indices do not matter to the legality of the default FORMAT_ROM, so it is that of `defaultParams`, whose
indices are 0. -/
theorem defaultFormatRom_legal (full panel sprites strip : Byte) :
    ∀ d ∈ (defaultFormatRom full panel sprites strip).toList, romEntryLegal defaultParams.obufSize d = true := by
  obtain ⟨_, _, _, hrom⟩ := (legalParams_iff defaultParams).mp defaultParams_legal
  change ∀ d ∈ (defaultFormatRom 0 0 0 0).toList, romEntryLegal defaultParams.obufSize d = true at hrom
  simp only [defaultFormatRom, Vector.toList_mk, List.forall_mem_cons, romEntryLegal_bankCtrl] at hrom ⊢
  exact hrom

/-- Settles O47: the four bank references are legal and valid whatever their index; the rest of the ROM is fixed. -/
theorem defaultRomIsLegalForEveryBankIndex : Obligations.DefaultRomIsLegalForEveryBankIndex := by
  unfold Obligations.DefaultRomIsLegalForEveryBankIndex
  intro full panel sprites strip
  obtain ⟨hibuf, hobuf, hbank, _⟩ := (legalParams_iff defaultParams).mp defaultParams_legal
  refine ⟨(legalParams_iff _).mpr ⟨hibuf, hobuf, hbank, defaultFormatRom_legal full panel sprites strip⟩, fun f => ?_⟩
  fin_cases f <;> simp [defaultFormatRom]

end Sys2Proof.Machine
end

section
/-! SUPPORT. SELFMT of a descriptor that passes all the checks of 44_dispatch.md R225. -/

namespace Sys2Proof.Machine

theorem State.descOf_rom (s : State) {fid : FormatId} (h : fid.toNat < 15) :
    s.descOf fid = s.params.formatRom[fid.toNat] := dif_pos h

/-- SELFMT latches a valid, legal descriptor whose pixels fit (R225). -/
theorem execSelfmt_of_legal {fid : FormatId} {s : State}
    (hv : fid ≠ 15 → (s.descOf fid).ctrl.getLsbD 31 = true)
    (hl : legalDesc ((s.descOf fid).ctrl.setWidth 31) = true)
    (hg : geometryFits s.params.obufSize (s.descOf fid).geom = true) :
    execSelfmt fid s = .next (State.complete { s with
      fmtId := fid, fmtGeom := (s.descOf fid).geom, fmtCtrl := (s.descOf fid).ctrl.setWidth 31, fmtValid := true }) := by
  simp only [geometryFits, Bool.and_eq_true, decide_eq_true_eq] at hg
  obtain ⟨hw, hfit⟩ := hg
  have hvalid : ¬ (fid ≠ 15 ∧ (s.descOf fid).ctrl.getLsbD 31 = false) := fun ⟨hf, hc⟩ =>
    Bool.false_ne_true (hc.symm.trans (hv hf))
  unfold execSelfmt
  dsimp only
  rw [if_neg hvalid, if_neg (by simp [hl]), if_neg (by omega), if_neg (by omega)]

/-- Settles O46: R10 has checked of every valid ROM entry what SELFMT checks (R225). -/
theorem validRomFormatsSelect : Obligations.ValidRomFormatsSelect := by
  unfold Obligations.ValidRomFormatsSelect
  intro s fid h hp hv
  obtain ⟨hl, hg⟩ := validRomEntry_legal hp h hv
  rw [← State.descOf_rom s h] at hv hl hg ⊢
  exact ⟨_, execSelfmt_of_legal (fun _ => hv) hl hg, rfl, rfl, rfl, rfl⟩

end Sys2Proof.Machine
end

section
/-! SUPPORT. Nothing but an illegal configuration is refused: no command, host access or operation of the host answers
`refused`. -/

namespace Sys2Proof.Machine

theorem State.withInput_ne_refused {s : State} {offsets : List Nat} {o : Host.Outcome State Fault Refusal} {r : Refusal}
    (ho : o ≠ .refused r) : s.withInput offsets o ≠ .refused r := by
  rcases State.withInput_cases s offsets o with ⟨h, _⟩ | ⟨a, _, _, h⟩
  · rwa [h]
  · simp [h]

theorem State.attachAndComplete_ne_refused (s : State) (r : Refusal) : s.attachAndComplete ≠ .refused r := by
  rcases State.attachAndComplete_cases s with ⟨rule, _, h⟩ | ⟨_, h⟩ <;> simp [h]

theorem exec_ne_refused (i : Instr) (s : State) (r : Refusal) : exec i s ≠ .refused r := by
  cases i with
  | nop | deint | unpack => exact nofun
  | selfmt fid =>
    change execSelfmt fid s ≠ _
    rcases execSelfmt_cases fid s with ⟨e, _, h⟩ | ⟨_, _, _, h⟩ <;> simp [h]
  | ldbank =>
    change execLdbank s ≠ _
    rcases execLdbank_cases s with ⟨e, _, h⟩ | ⟨_, _, _, h⟩ <;> rw [h]
    · exact nofun
    · exact State.withInput_ne_refused nofun
  | ldpal =>
    change execLdpal s ≠ _
    rcases execLdpal_cases s with ⟨e, _, h⟩ | ⟨_, _, h⟩ <;> rw [h]
    · exact nofun
    · exact State.withInput_ne_refused nofun
  | resolve =>
    change execResolve s ≠ _
    rcases execResolve_cases s with ⟨_, h⟩ | ⟨_, h⟩ <;> rw [h]
    · exact nofun
    · exact State.attachAndComplete_ne_refused s r
  | decode =>
    change execDecode s ≠ _
    rcases execDecode_cases s with ⟨e, _, h⟩ | ⟨_, _, _, ⟨_, h⟩ | ⟨_, h⟩⟩ <;> rw [h]
    · exact nofun
    · exact State.withInput_ne_refused (State.attachAndComplete_ne_refused _ r)
    · exact State.withInput_ne_refused nofun

theorem hostRead_ne_refused (n : Width) (a : Addr) (s : State) (r : Refusal) : hostRead n a s ≠ .refused r := by
  rcases hostRead_cases n a s with ⟨_, h⟩ | ⟨_, _, _, h⟩ | ⟨_, _, h⟩ <;> simp [h]

theorem hostWrite_ne_refused (n : Width) (a : Addr) (v : Word) (s : State) (r : Refusal) :
    hostWrite n a v s ≠ .refused r := by
  rcases hostWrite_cases n a v s with ⟨_, h⟩ | ⟨_, _, _, h⟩ | ⟨_, _, h⟩ <;> simp [h]

theorem hostStep_ne_refused (s : State) (r : Refusal) : hostStep s ≠ .refused r := by
  rcases hostStep_cases s with ⟨_, h⟩ | ⟨n, a, rest, _, h⟩ | ⟨n, a, v, rest, _, h⟩ | ⟨rest, p, _, _, h⟩ <;> rw [h]
  · exact nofun
  · exact hostRead_ne_refused n a _ r
  · exact hostWrite_ne_refused n a v _ r
  · exact nofun

/-- A legal configuration is never refused, whatever the turn. -/
theorem step_ne_refused {s : State} (hp : legalParams s.params = true) (r : Refusal) : step s ≠ .refused r := by
  rcases step_cases hp with ⟨i, _, _, _, h⟩ | ⟨e, _, _, _, h⟩ | ⟨_, _, h⟩ | ⟨_, h⟩ | ⟨_, h⟩ <;> rw [h]
  · exact exec_ne_refused i _ r
  · exact nofun
  · exact nofun
  · exact hostStep_ne_refused _ r
  · exact nofun

theorem step_of_illegalParams {s : State} (hp : legalParams s.params = false) :
    step s = .refused .illegalParameters := by
  simp [step, hp]

/-- Settles O10, by the two kinds of configuration. -/
theorem stepRefusesExactlyIllegalConfigurations : Obligations.StepRefusesExactlyIllegalConfigurations := by
  unfold Obligations.StepRefusesExactlyIllegalConfigurations
  intro s r
  cases hp : legalParams s.params with
  | true => simp [step_ne_refused hp r]
  | false => simp [step_of_illegalParams hp, eq_comm]

end Sys2Proof.Machine
end

section
/-! SUPPORT. The invariant of every reachable state: each update the steps are made of keeps it.
`{ h with … }` names the facts an update touches; it keeps the others as they are in h. -/

namespace Sys2Proof.Machine

theorem State.Inv.obufSize_le {s : State} (h : s.Inv) : s.params.obufSize ≤ 0x40000 := by
  obtain ⟨_, ⟨_, hle⟩, _⟩ := (legalParams_iff _).mp h.params
  exact hle

theorem State.Inv.bankMax_le {s : State} (h : s.Inv) : s.params.bankMax ≤ 16 := by
  obtain ⟨_, _, ⟨_, hle⟩, _⟩ := (legalParams_iff _).mp h.params
  exact hle

/-- The state after reset has the invariant: nothing is listed, no bank is loaded, no format selected (R401). -/
theorem State.initial_inv {p : Params} (hp : legalParams p = true) : (State.initial p).Inv where
  params := hp
  mem := Memory.wf_nil p
  err := by simp [State.initial]
  bankLen := Nat.zero_le _
  bankWritten := fun _ hj => absurd hj (Nat.not_lt_zero _)
  fmtLegal := nofun
  fmtFits := nofun
  outLen := Nat.zero_le _

/-! The turns, the completions and their marks. -/

theorem State.Inv.takeTurn {s : State} (h : s.Inv) : s.takeTurn.Inv := { h with }

theorem State.Inv.tick {s : State} (h : s.Inv) : s.tick.Inv := { h with }

theorem State.Inv.engineState {s : State} (h : s.Inv) : s.engineState.Inv := h.takeTurn.tick

theorem State.Inv.platformReset {s : State} (h : s.Inv) : s.platformReset.Inv :=
  { State.initial_inv h.params with }

theorem State.Inv.complete {s : State} (h : s.Inv) : s.complete.Inv := { h with err := by simp }

theorem State.Inv.raise {s : State} (h : s.Inv) {e : ErrCode} (he : e ≠ .ok) : (s.raise e).Inv :=
  { h with err := by simp [he] }

theorem State.Inv.raiseNoBank {s : State} (h : s.Inv) {e : ErrCode} (he : e ≠ .ok) : (s.raiseNoBank e).Inv :=
  State.Inv.raise (s := { s with bankLen := 0 })
    { h with bankLen := Nat.zero_le _, bankWritten := fun _ hj => absurd hj (Nat.not_lt_zero _) } he

theorem State.Inv.raiseNoFormat {s : State} (h : s.Inv) {e : ErrCode} (he : e ≠ .ok) : (s.raiseNoFormat e).Inv :=
  State.Inv.raise (s := { s with fmtValid := false }) { h with fmtLegal := nofun, fmtFits := nofun } he

theorem State.Inv.raiseNoOutput {s : State} (h : s.Inv) {e : ErrCode} (he : e ≠ .ok) : (s.raiseNoOutput e).Inv :=
  State.Inv.raise (s := { s with outLen := 0 }) { h with outLen := Nat.zero_le _ } he

/-! What the commands load and latch. -/

/-- A bank of at most BANK_MAX slots, each of them parsed (R140). -/
theorem State.Inv.loadBank {s : State} (h : s.Inv) {m : Nat} (hm : m ≤ s.params.bankMax) :
    State.Inv { s with pbank := s.loadedBank m, bankLen := BitVec.ofNat 32 m } := by
  have hlen : (BitVec.ofNat 32 m).toNat ≤ m := by
    rw [BitVec.toNat_ofNat]
    exact Nat.mod_le _ _
  refine { h with bankLen := hlen.trans hm, bankWritten := fun j hj => ?_ }
  have hjm : j.val < m := Nat.lt_of_lt_of_le hj hlen
  change (s.loadedBank m)[j.val].isSome = true
  simp [State.loadedBank_getElem, hjm]

/-- A descriptor that has passed the checks of SELFMT (R225). -/
theorem State.Inv.selectFormat {s : State} (h : s.Inv) {fid : FormatId} {g : Word} {c : CtrlBits}
    (hl : legalDesc c = true) (hg : geometryFits s.params.obufSize g = true) :
    State.Inv { s with fmtId := fid, fmtGeom := g, fmtCtrl := c, fmtValid := true } :=
  { h with fmtLegal := fun _ => hl, fmtFits := fun _ => hg }

theorem State.Inv.attachPalette {s : State} (h : s.Inv) (rule : PaletteRule) : (s.attachPalette rule).Inv := by
  rw [State.attachPalette_eq]
  exact { h with }

/-! What is written to IBUF and OBUF. -/

theorem isRam_obuf {p : Params} {a : Nat} (h : obufBase ≤ a) (h' : a < obufBase + p.obufSize) :
    Memory.isRam p a = true := by
  simp [Memory.isRam, h, h']

/-- The pixels of a selected format fit in OBUF (R225, R233). -/
theorem State.Inv.pixels_fit {s : State} (h : s.Inv) (hv : s.fmtValid = true) :
    s.fmtW * s.fmtH ≤ s.params.obufSize := by
  have hg := h.fmtFits hv
  simp only [geometryFits, Bool.and_eq_true, decide_eq_true_eq] at hg
  exact hg.2

/-- The writes of DECODE stay in OBUF and OUT_LEN counts them (R230, R233). -/
theorem State.Inv.writePixels {s : State} (h : s.Inv) (hv : s.fmtValid = true) : s.writePixels.Inv := by
  have hfit := h.pixels_fit hv
  refine { h with mem := ?_, outLen := ?_ }
  · refine Memory.store_wf h.mem fun a ha ha' => isRam_obuf ha ?_
    rw [State.decodedPixels_length] at ha'
    omega
  · rw [State.writePixels_outLen, BitVec.toNat_ofNat]
    exact (Nat.mod_le _ _).trans hfit

/-- Every byte of an access to IBUF or OBUF that is no bus error is a byte of IBUF or OBUF (R73 to R75). -/
theorem isRam_of_busOk {p : Params} (hp : p.bankMax ≤ 16) {n : Width} {a : Nat} (hok : busOk p n a = true)
    (hr : regionOf p a = .ibuf ∨ regionOf p a = .obuf) {b : Nat} (hb : a ≤ b) (hb' : b < a + n.bytes) :
    Memory.isRam p b = true := by
  have hbase : ibufBase ≤ a := by
    rcases hr with hr | hr
    · exact (regionOf_eq_ibuf hr).1
    · exact Nat.le_trans (by decide) (regionOf_eq_obuf hr).1
  obtain ⟨hmapped, _, _⟩ := (busOk_iff p n a).mp hok
  have hmap := hmapped (b - a) (by omega)
  rw [Nat.add_sub_cancel' hb] at hmap
  exact isRam_of_mapped hp (hbase.trans hb) hmap

/-- A bus write that is no bus error: registers the invariant does not speak of, or bytes of IBUF or OBUF. -/
theorem State.Inv.busWrite {s : State} (h : s.Inv) {n : Width} {a : Nat} (v : Word) (hok : busOk s.params n a = true) :
    (s.busWrite n a v (regionOf s.params a)).Inv := by
  rcases State.busWrite_cases s n a v (regionOf s.params a) with ⟨r, _, hw⟩ | ⟨hr, hw⟩ | ⟨_, _, _, hw⟩ <;> rw [hw]
  · rw [State.writeReg_eq]
    exact { h with }
  · refine { h with mem := Memory.store_wf h.mem fun b hb hb' => ?_ }
    rw [bytesOf_length] at hb'
    exact isRam_of_busOk h.bankMax_le hok hr hb hb'
  · exact h

end Sys2Proof.Machine
end

section
/-! SUPPORT. Every command and every operation of the host keeps the invariant, and so does every step. -/

namespace Sys2Proof.Machine

theorem State.Inv.attachAndComplete_next {s t : State} (h : s.Inv) (ht : s.attachAndComplete = .next t) : t.Inv := by
  rcases State.attachAndComplete_cases s with ⟨rule, _, he⟩ | ⟨_, he⟩ <;> rw [he] at ht <;> cases ht
  exact (h.attachPalette rule).complete

theorem State.Inv.execSelfmt_next {s t : State} (h : s.Inv) {fid : FormatId} (ht : execSelfmt fid s = .next t) : t.Inv := by
  rcases execSelfmt_cases fid s with ⟨e, he, hx⟩ | ⟨_, hl, hg, hx⟩ <;> rw [hx] at ht <;> cases ht
  · exact h.raiseNoFormat (by rcases he with rfl | rfl | rfl | rfl <;> decide)
  · exact (h.selectFormat hl hg).complete

theorem State.Inv.execLdbank_next {s t : State} (h : s.Inv) (ht : execLdbank s = .next t) : t.Inv := by
  rcases execLdbank_cases s with ⟨e, he, hx⟩ | ⟨_, _, hm, hx⟩ <;> rw [hx] at ht
  · cases ht
    exact h.raiseNoBank (by rcases he with rfl | rfl <;> decide)
  · obtain ⟨⟨⟩, _⟩ := State.withInput_next ht
    exact (h.loadBank hm).complete

theorem State.Inv.execLdpal_next {s t : State} (h : s.Inv) (ht : execLdpal s = .next t) : t.Inv := by
  rcases execLdpal_cases s with ⟨e, he, hx⟩ | ⟨_, _, hx⟩ <;> rw [hx] at ht
  · cases ht
    exact h.raise (by rcases he with rfl | rfl <;> decide)
  · obtain ⟨⟨⟩, _⟩ := State.withInput_next ht
    exact State.Inv.complete { h with }

theorem State.Inv.execResolve_next {s t : State} (h : s.Inv) (ht : execResolve s = .next t) : t.Inv := by
  rcases execResolve_cases s with ⟨_, hx⟩ | ⟨_, hx⟩ <;> rw [hx] at ht
  · cases ht
    exact h.raise (by decide)
  · exact h.attachAndComplete_next ht

theorem State.Inv.execDecode_next {s t : State} (h : s.Inv) (ht : execDecode s = .next t) : t.Inv := by
  rcases execDecode_cases s with ⟨e, he, hx⟩ | ⟨hv, _, _, ⟨_, hx⟩ | ⟨_, hx⟩⟩ <;> rw [hx] at ht
  · cases ht
    exact h.raiseNoOutput (by rcases he with rfl | rfl | rfl <;> decide)
  · obtain ⟨hd, _⟩ := State.withInput_next ht
    exact (h.writePixels hv).attachAndComplete_next hd
  · obtain ⟨⟨⟩, _⟩ := State.withInput_next ht
    exact State.Inv.complete { h.writePixels hv with }

/-- Every command keeps the invariant. -/
theorem State.Inv.exec_next {s t : State} (h : s.Inv) {i : Instr} (ht : exec i s = .next t) : t.Inv := by
  cases i with
  | nop => cases ht; exact h.complete
  | selfmt fid => exact h.execSelfmt_next ht
  | ldbank => exact h.execLdbank_next ht
  | ldpal => exact h.execLdpal_next ht
  | resolve => exact h.execResolve_next ht
  | decode => exact h.execDecode_next ht
  | deint => cases ht; exact State.Inv.complete { h with }
  | unpack => cases ht; exact State.Inv.complete { h with }

theorem State.Inv.hostRead_next {s t : State} (h : s.Inv) {n : Width} {a : Addr} (ht : hostRead n a s = .next t) : t.Inv := by
  rcases hostRead_cases n a s with ⟨_, hx⟩ | ⟨_, _, _, hx⟩ | ⟨_, _, hx⟩ <;> rw [hx] at ht <;> cases ht
  exact { h with }

theorem State.Inv.hostWrite_next {s t : State} (h : s.Inv) {n : Width} {a : Addr} {v : Word}
    (ht : hostWrite n a v s = .next t) : t.Inv := by
  rcases hostWrite_cases n a v s with ⟨_, hx⟩ | ⟨_, _, _, hx⟩ | ⟨hok, _, hx⟩ <;> rw [hx] at ht <;> cases ht
  exact (h.busWrite v hok).tick

/-- Every operation of the host keeps the invariant. -/
theorem State.Inv.hostStep_next {s t : State} (h : s.Inv) (ht : hostStep s = .next t) : t.Inv := by
  rcases hostStep_cases s with ⟨_, hx⟩ | ⟨n, a, rest, _, hx⟩ | ⟨n, a, v, rest, _, hx⟩ | ⟨rest, p, _, _, hx⟩ <;>
    rw [hx] at ht
  · cases ht; exact h
  · exact State.Inv.hostRead_next (s := { s with program := rest }) { h with } ht
  · exact State.Inv.hostWrite_next (s := { s with program := rest }) { h with } ht
  · cases ht; exact { h with }

/-- Every step keeps the invariant: the Engine's, the host's and the platform's. -/
theorem State.Inv.step_next {s t : State} (h : s.Inv) (ht : step s = .next t) : t.Inv := by
  rcases step_cases h.params with ⟨i, _, _, _, hx⟩ | ⟨e, _, _, _, hx⟩ | ⟨_, _, hx⟩ | ⟨_, hx⟩ | ⟨_, hx⟩ <;> rw [hx] at ht
  · exact h.engineState.exec_next ht
  · cases ht; exact h.engineState.raise (by decide)
  · cases ht; exact h.takeTurn
  · exact h.takeTurn.hostStep_next ht
  · cases ht; exact h.takeTurn.platformReset

/-- Settles O34, by the turns a step can take. -/
theorem stepKeepsTheInvariant : Obligations.StepKeepsTheInvariant := by
  unfold Obligations.StepKeepsTheInvariant
  exact fun _ _ h ht => h.step_next ht

end Sys2Proof.Machine
end

section
/-! SUPPORT. What PAL_SRC says of PAL (10_state.md R41): it holds of the palettes built from source bytes, at reset, and after
each update of PAL, PAL_SRC and PBANK. -/

namespace Sys2Proof.Machine

/-! The palettes built from source bytes. -/

/-- A channel built from a source byte is a raw level (40_palette_table.md R130, R135). -/
theorem rawChannel_nib8 (b : Byte) : rawChannel (nib8 b) := by
  unfold rawChannel
  rw [nib8_toNat]
  omega

/-- A parsed block has raw levels, whatever the bytes (40_palette_table.md R135). -/
theorem rawPalette_parseBlock (M : Nat → Byte) (base : Nat) : rawPalette (parseBlock M base) := by
  intro i
  rw [Fin.getElem_fin, parseBlock_getElem]
  exact ⟨rawChannel_nib8 _, rawChannel_nib8 _, rawChannel_nib8 _⟩

/-! Updates that leave PAL, PAL_SRC and PBANK as they are. -/

/-- The claim speaks of PAL_SRC, PAL and PBANK only. -/
theorem State.PaletteInv.of_eq {s t : State} (h : s.PaletteInv) (hsrc : t.palSrc = s.palSrc) (hpal : t.pal = s.pal)
    (hbank : t.pbank = s.pbank) : t.PaletteInv := by
  obtain ⟨hgray, hraw, hslots⟩ := h
  constructor
  · rwa [hsrc, hpal]
  · rwa [hsrc, hpal]
  · rwa [hbank]

/-- The state after reset: PAL_SRC says grey, PAL is the ramp and no slot has been written (10_state.md R40, R42). -/
theorem State.initial_paletteInv (p : Params) : (State.initial p).PaletteInv where
  gray := fun _ => rfl
  raw := by simp [State.initial]
  bank := fun j q hq => by simp [State.initial] at hq

/-! Updates of PAL, PAL_SRC and PBANK. -/

/-- No palette attached: the claim is about the bank alone. -/
theorem State.PaletteInv.detachPalette {s : State} (h : s.PaletteInv) :
    State.PaletteInv { s with palSrc := .noPalette } :=
  { h with gray := nofun, raw := by simp }

/-- LDPAL's palette is a parsed block (40_palette_table.md R142). -/
theorem State.PaletteInv.loadPalette {s : State} (h : s.PaletteInv) (M : Nat → Byte) (base : Nat) :
    State.PaletteInv { s with pal := parseBlock M base, palSrc := .direct } :=
  { h with gray := nofun, raw := fun _ => rawPalette_parseBlock M base }

/-- LDBANK's slots are parsed blocks, and the slots above them stay (40_palette_table.md R140). -/
theorem State.PaletteInv.loadBank {s : State} (h : s.PaletteInv) (m : Nat) :
    State.PaletteInv { s with pbank := s.loadedBank m } := by
  refine { h with bank := fun j p hp => ?_ }
  rw [Fin.getElem_fin, State.loadedBank_getElem] at hp
  split at hp
  next => cases hp; exact rawPalette_parseBlock _ _
  next => exact h.bank j p hp

/-- A slot of the loaded bank has been written, so what the Engine reads from it has raw levels (10_state.md R42). -/
theorem State.PaletteInv.rawPalette_bankSlot {s : State} (h : s.PaletteInv) (hs : s.Inv) {j : Nat}
    (hj : j < s.bankLength) : rawPalette (s.bankSlot j) := by
  have hj16 : j < 16 := hj.trans_le (hs.bankLen.trans hs.bankMax_le)
  obtain ⟨p, hp⟩ := Option.isSome_iff_exists.mp (hs.bankWritten ⟨j, hj16⟩ hj)
  rw [State.bankSlot_of_some hj16 hp]
  exact h.bank ⟨j, hj16⟩ p hp

/-- What a rule resolves to: the grey ramp marked grey, or raw levels (41_palette_resolver.md R162). -/
theorem State.PaletteInv.resolvePal_cases {s : State} (h : s.PaletteInv) (hs : s.Inv) {rule : PaletteRule} {p : Palette}
    {src : PalSrc} (hr : s.resolvePal rule = some (p, src)) :
    (src = .gray ∧ p = Machine.gray) ∨ (src ≠ .gray ∧ rawPalette p) := by
  cases rule with
  | fixedBuiltin k =>
    simp only [State.resolvePal, Option.some.injEq, Prod.mk.injEq] at hr
    obtain ⟨rfl, rfl⟩ := hr
    exact .inr ⟨nofun, rawPalette_parseBlock _ _⟩
  | bankIndex i =>
    by_cases hi : i.toNat < s.bankLength
    · simp only [State.resolvePal, if_pos hi, Option.some.injEq, Prod.mk.injEq] at hr
      obtain ⟨rfl, rfl⟩ := hr
      exact .inr ⟨nofun, h.rawPalette_bankSlot hs hi⟩
    · simp only [State.resolvePal, if_neg hi, Option.some.injEq, Prod.mk.injEq] at hr
      obtain ⟨rfl, rfl⟩ := hr
      exact .inl ⟨rfl, rfl⟩
  | noPalette => simp [State.resolvePal] at hr

theorem State.PaletteInv.attachPalette {s : State} (h : s.PaletteInv) (hs : s.Inv) (rule : PaletteRule) :
    (s.attachPalette rule).PaletteInv := by
  unfold State.attachPalette
  split
  next p src hr =>
    rcases h.resolvePal_cases hs hr with ⟨rfl, rfl⟩ | ⟨hsrc, hraw⟩
    · exact { h with gray := fun _ => rfl, raw := by simp }
    · exact { h with gray := fun hg => absurd hg hsrc, raw := fun _ => hraw }
  next => exact h.detachPalette

end Sys2Proof.Machine
end

section
/-! SUPPORT. Every command, every operation of the host and every step keeps PAL_SRC true of PAL. -/

namespace Sys2Proof.Machine

theorem State.PaletteInv.attachAndComplete_next {s t : State} (h : s.PaletteInv) (hs : s.Inv)
    (ht : s.attachAndComplete = .next t) : t.PaletteInv := by
  rcases State.attachAndComplete_cases s with ⟨rule, _, he⟩ | ⟨_, he⟩ <;> rw [he] at ht <;> cases ht
  exact (h.attachPalette hs rule).of_eq rfl rfl rfl

theorem State.PaletteInv.execSelfmt_next {s t : State} (h : s.PaletteInv) {fid : FormatId}
    (ht : execSelfmt fid s = .next t) : t.PaletteInv := by
  rcases execSelfmt_cases fid s with ⟨e, _, hx⟩ | ⟨_, _, _, hx⟩ <;> rw [hx] at ht <;> cases ht
  · exact h.of_eq rfl rfl rfl
  · exact h.of_eq rfl rfl rfl

theorem State.PaletteInv.execLdbank_next {s t : State} (h : s.PaletteInv) (ht : execLdbank s = .next t) :
    t.PaletteInv := by
  rcases execLdbank_cases s with ⟨e, _, hx⟩ | ⟨_, _, _, hx⟩ <;> rw [hx] at ht
  · cases ht
    exact h.of_eq rfl rfl rfl
  · obtain ⟨⟨⟩, _⟩ := State.withInput_next ht
    exact (h.loadBank _).of_eq rfl rfl rfl

theorem State.PaletteInv.execLdpal_next {s t : State} (h : s.PaletteInv) (ht : execLdpal s = .next t) :
    t.PaletteInv := by
  rcases execLdpal_cases s with ⟨e, _, hx⟩ | ⟨_, _, hx⟩ <;> rw [hx] at ht
  · cases ht
    exact h.of_eq rfl rfl rfl
  · obtain ⟨⟨⟩, _⟩ := State.withInput_next ht
    exact (h.loadPalette _ _).of_eq rfl rfl rfl

theorem State.PaletteInv.execResolve_next {s t : State} (h : s.PaletteInv) (hs : s.Inv)
    (ht : execResolve s = .next t) : t.PaletteInv := by
  rcases execResolve_cases s with ⟨_, hx⟩ | ⟨_, hx⟩ <;> rw [hx] at ht
  · cases ht
    exact h.of_eq rfl rfl rfl
  · exact h.attachAndComplete_next hs ht

theorem State.PaletteInv.execDecode_next {s t : State} (h : s.PaletteInv) (hs : s.Inv)
    (ht : execDecode s = .next t) : t.PaletteInv := by
  have hpix : s.writePixels.PaletteInv := h.of_eq rfl rfl rfl
  rcases execDecode_cases s with ⟨e, _, hx⟩ | ⟨hv, _, _, ⟨_, hx⟩ | ⟨_, hx⟩⟩ <;> rw [hx] at ht
  · cases ht
    exact h.of_eq rfl rfl rfl
  · obtain ⟨hd, _⟩ := State.withInput_next ht
    exact hpix.attachAndComplete_next (hs.writePixels hv) hd
  · obtain ⟨⟨⟩, _⟩ := State.withInput_next ht
    exact hpix.detachPalette.of_eq rfl rfl rfl

/-- Every command keeps PAL_SRC true of PAL. -/
theorem State.PaletteInv.exec_next {s t : State} (h : s.PaletteInv) (hs : s.Inv) {i : Instr}
    (ht : exec i s = .next t) : t.PaletteInv := by
  cases i with
  | nop | deint | unpack => cases ht; exact h.of_eq rfl rfl rfl
  | selfmt fid => exact h.execSelfmt_next ht
  | ldbank => exact h.execLdbank_next ht
  | ldpal => exact h.execLdpal_next ht
  | resolve => exact h.execResolve_next hs ht
  | decode => exact h.execDecode_next hs ht

/-- No operation of the host touches PAL, PAL_SRC or PBANK. -/
theorem State.PaletteInv.hostStep_next {s t : State} (h : s.PaletteInv) (ht : hostStep s = .next t) :
    t.PaletteInv := by
  rcases hostStep_cases s with ⟨_, hx⟩ | ⟨n, a, rest, _, hx⟩ | ⟨n, a, v, rest, _, hx⟩ | ⟨rest, p, _, _, hx⟩ <;>
    rw [hx] at ht
  · cases ht; exact h
  · rcases hostRead_cases n a { s with program := rest } with ⟨_, hr⟩ | ⟨_, _, _, hr⟩ | ⟨_, _, hr⟩ <;>
      rw [hr] at ht <;> cases ht
    exact h.of_eq rfl rfl rfl
  · rcases hostWrite_cases n a v { s with program := rest } with ⟨_, hw⟩ | ⟨_, _, _, hw⟩ | ⟨_, _, hw⟩ <;>
      rw [hw] at ht <;> cases ht
    exact h.of_eq (State.busWrite_palSrc _ _ _ _ _) (State.busWrite_pal _ _ _ _ _) (State.busWrite_pbank _ _ _ _ _)
  · cases ht; exact h.of_eq rfl rfl rfl

/-- Every step keeps PAL_SRC true of PAL. The invariant is needed where the Engine reads a slot of the bank. -/
theorem State.PaletteInv.step_next {s t : State} (h : s.PaletteInv) (hs : s.Inv) (ht : step s = .next t) :
    t.PaletteInv := by
  have hturn : s.takeTurn.PaletteInv := h.of_eq rfl rfl rfl
  have hengine : s.engineState.PaletteInv := h.of_eq rfl rfl rfl
  rcases step_cases hs.params with ⟨i, _, _, _, hx⟩ | ⟨e, _, _, _, hx⟩ | ⟨_, _, hx⟩ | ⟨_, hx⟩ | ⟨_, hx⟩ <;> rw [hx] at ht
  · exact hengine.exec_next hs.engineState ht
  · cases ht; exact hengine.of_eq rfl rfl rfl
  · cases ht; exact hturn
  · exact hturn.hostStep_next ht
  · cases ht; exact (State.initial_paletteInv s.params).of_eq rfl rfl rfl

/-- Settles O36, by the turns a step can take. -/
theorem stepKeepsPalSrcTrue : Obligations.StepKeepsPalSrcTrue := by
  unfold Obligations.StepKeepsPalSrcTrue
  exact fun _ _ hs h ht => h.step_next hs ht

/-- Settles O37: the default configuration's case of `State.initial_paletteInv`. -/
theorem resetHasPalSrcTrue : Obligations.ResetHasPalSrcTrue := by
  unfold Obligations.ResetHasPalSrcTrue
  exact State.initial_paletteInv defaultParams

end Sys2Proof.Machine
end

section
/-! SUPPORT. The address map: what region each row of the map of 20_memory.md R72 gives, and that an access is no bus error
exactly outside the conditions of R73. -/

namespace Sys2Proof.Machine

/-- Entry k of the register list is the register at offset 4k (10_state.md R20). -/
theorem regAddr_allRegs : ∀ k : Fin allRegs.length, (regAddr allRegs[k]).toNat = 4 * k.val := by decide

theorem regAddr_of_allRegs {k : Nat} {r : Reg} (h : allRegs[k]? = some r) : (regAddr r).toNat = 4 * k := by
  obtain ⟨hk, rfl⟩ := List.getElem?_eq_some_iff.mp h
  exact regAddr_allRegs ⟨k, hk⟩

theorem allRegs_regAddr (r : Reg) : allRegs[(regAddr r).toNat / 4]? = some r := by
  cases r <;> rfl

theorem regAddr_lt (r : Reg) : (regAddr r).toNat < 0x4C := by
  cases r <;> decide

theorem regAddr_aligned (r : Reg) : (regAddr r).toNat % 4 = 0 := by
  cases r <;> decide

/-- All an address can be: in no row of the map of R72, or in one, with what lies there. -/
theorem regionOf_cases (p : Params) (a : Nat) :
    (¬ mappedByte p a ∧ regionOf p a = .unmapped) ∨
      (a < 0x4C ∧ ∃ r, allRegs[a / 4]? = some r ∧ regionOf p a = .reg r) ∨
      ((0x400 ≤ a ∧ a < 0x800) ∧ ∃ k, regionOf p a = .palx k) ∨
      ((0x800 ≤ a ∧ a < 0x800 + p.bankMax * 64) ∧ ∃ j i, regionOf p a = .pbank j i) ∨
      ((0xC00 ≤ a ∧ a < 0xCC0) ∧ regionOf p a = .brom) ∨
      ((0xD00 ≤ a ∧ a < 0xD80) ∧ ∃ f c, regionOf p a = .formatRom f c) ∨
      ((0x20000 ≤ a ∧ a < 0x20000 + p.ibufSize) ∧ regionOf p a = .ibuf) ∨
      ((0x40000 ≤ a ∧ a < 0x40000 + p.obufSize) ∧ regionOf p a = .obuf) := by
  unfold regionOf mappedByte
  by_cases hreg : a < 0x4C
  · have hlen : a / 4 < allRegs.length := Nat.div_lt_of_lt_mul hreg
    rw [if_pos hreg, List.getElem?_eq_getElem hlen]
    exact .inr (.inl ⟨hreg, _, rfl, rfl⟩)
  rw [if_neg hreg]
  split
  next h => exact .inr (.inr (.inl ⟨h, _, rfl⟩))
  split
  next h => exact .inr (.inr (.inr (.inl ⟨h, _, _, rfl⟩)))
  split
  next h => exact .inr (.inr (.inr (.inr (.inl ⟨h, rfl⟩))))
  split
  next h => exact .inr (.inr (.inr (.inr (.inr (.inl ⟨h, _, _, rfl⟩)))))
  split
  next h => exact .inr (.inr (.inr (.inr (.inr (.inr (.inl ⟨h, rfl⟩))))))
  split
  next h => exact .inr (.inr (.inr (.inr (.inr (.inr (.inr ⟨h, rfl⟩))))))
  next hpalx hpbank hbrom hfrom hibuf hobuf =>
    refine .inl ⟨?_, rfl⟩
    rintro (h | h | h | h | h | h | h)
    exacts [hreg h, hpalx h, hpbank h, hbrom h, hfrom h, hibuf h, hobuf h]

theorem regionOf_ne_unmapped_iff (p : Params) (a : Nat) : regionOf p a ≠ .unmapped ↔ mappedByte p a := by
  unfold mappedByte
  rcases regionOf_cases p a with ⟨h, hr⟩ | ⟨h, r, _, hr⟩ | ⟨h, k, hr⟩ | ⟨h, j, i, hr⟩ | ⟨h, hr⟩ | ⟨h, f, c, hr⟩ |
    ⟨h, hr⟩ | ⟨h, hr⟩
  · exact iff_of_false (by simp [hr]) h
  all_goals exact iff_of_true (by simp [hr]) (by simp [h])

/-- The width rule of R73 for a mapped address. -/
theorem regionOf_allows_iff {p : Params} (hp : p.bankMax ≤ 16) {a : Nat} (hm : mappedByte p a) (n : Width) :
    (regionOf p a).allows n = true ↔ ¬ (wordOnlyByte a ∧ n ≠ .word) := by
  unfold wordOnlyByte
  rcases regionOf_cases p a with ⟨h, hr⟩ | ⟨h, r, _, hr⟩ | ⟨h, k, hr⟩ | ⟨h, j, i, hr⟩ | ⟨h, hr⟩ | ⟨h, f, c, hr⟩ |
    ⟨h, hr⟩ | ⟨h, hr⟩
  · exact absurd hm h
  all_goals
    rw [hr]
    cases n <;> simp [Region.allows] <;> omega

/-- An access is no bus error exactly when none of the conditions of R73 holds. -/
theorem busOk_iff_not_busErrorAt {p : Params} (hp : legalParams p = true) (n : Width) (a : Nat) :
    busOk p n a = true ↔ ¬ busErrorAt p n a := by
  obtain ⟨_, _, ⟨_, hbank⟩, _⟩ := (legalParams_iff p).mp hp
  have hpos : 0 < n.bytes := by cases n <;> decide
  have hmapped : (∀ k < n.bytes, mappedByte p (a + k)) → mappedByte p a := fun h => h 0 hpos
  simp only [busOk_iff, regionOf_ne_unmapped_iff, busErrorAt, not_or, not_exists, not_and, not_not]
  refine and_congr_right fun hall => and_congr_right fun _ => ?_
  rw [regionOf_allows_iff hbank (hmapped hall) n, not_and, not_not]

end Sys2Proof.Machine
end

section
/-! SUPPORT. The register window: a word access at a register's address reads or writes that register (10_state.md R20). -/

namespace Sys2Proof.Machine

/-- Each of the four bytes at a register's address is that register's. -/
theorem regionOf_regAddr (p : Params) (r : Reg) {k : Nat} (hk : k < 4) : regionOf p ((regAddr r).toNat + k) = .reg r := by
  have hlt := regAddr_lt r
  have hal := regAddr_aligned r
  have hdiv : ((regAddr r).toNat + k) / 4 = (regAddr r).toNat / 4 := by omega
  unfold regionOf
  rw [if_pos (by omega), hdiv, allRegs_regAddr]

theorem busOk_regAddr (p : Params) (r : Reg) : busOk p .word (regAddr r).toNat = true := by
  rw [busOk_iff, show regionOf p (regAddr r).toNat = .reg r from regionOf_regAddr p r (by decide : 0 < 4)]
  exact ⟨fun k hk => by simp [regionOf_regAddr p r hk], regAddr_aligned r, rfl⟩

/-- An access that is no bus error and falls on a register is a word access at its address (20_memory.md R73, R76). -/
theorem regAddr_of_busOk {p : Params} {n : Width} {a : Nat} {r : Reg} (hok : busOk p n a = true)
    (hr : regionOf p a = .reg r) : (regAddr r).toNat = a := by
  obtain ⟨_, hal, hallow⟩ := (busOk_iff p n a).mp hok
  have hn : n = .word := by simpa [hr, Region.allows] using hallow
  have hal4 : a % 4 = 0 := by rwa [hn] at hal
  rcases regionOf_cases p a with ⟨_, hx⟩ | ⟨_, q, hq, hx⟩ | ⟨_, k, hx⟩ | ⟨_, j, i, hx⟩ | ⟨_, hx⟩ | ⟨_, f, c, hx⟩ |
    ⟨_, hx⟩ | ⟨_, hx⟩ <;> rw [hx] at hr <;> cases hr
  rw [regAddr_of_allRegs hq]
  omega

/-- A host read of a register that R407 allows. -/
theorem hostRead_reg (s : State) (r : Reg) (h : s.busy = true → r.readableWhileBusy = true) :
    hostRead .word (regAddr r) s = .next { s with busData := some (s.readReg r) } := by
  have hr : regionOf s.params (regAddr r).toNat = .reg r := regionOf_regAddr s.params r (by decide : 0 < 4)
  rcases hostRead_cases .word (regAddr r) s with ⟨hok, _⟩ | ⟨_, hb, hn, _⟩ | ⟨_, _, hx⟩
  · rw [busOk_regAddr] at hok
    cases hok
  · rw [hr] at hn
    exact absurd (h hb) (ne_true_of_eq_false hn)
  · rw [hx, hr]
    rfl

/-- A host write of a register that R407 allows. -/
theorem hostWrite_reg (s : State) (r : Reg) (v : Word) (h : s.busy = true → r.writableWhileBusy = true) :
    hostWrite .word (regAddr r) v s = .next (s.writeReg r v).tick := by
  have hr : regionOf s.params (regAddr r).toNat = .reg r := regionOf_regAddr s.params r (by decide : 0 < 4)
  rcases hostWrite_cases .word (regAddr r) v s with ⟨hok, _⟩ | ⟨_, hb, hn, _⟩ | ⟨_, _, hx⟩
  · rw [busOk_regAddr] at hok
    cases hok
  · rw [hr] at hn
    exact absurd (h hb) (ne_true_of_eq_false hn)
  · rw [hx, hr]
    rfl

theorem hostRead_reg_idle {s : State} (h : s.busy = false) (r : Reg) :
    hostRead .word (regAddr r) s = .next { s with busData := some (s.readReg r) } :=
  hostRead_reg s r fun hb => absurd hb (ne_true_of_eq_false h)

theorem hostWrite_reg_idle {s : State} (h : s.busy = false) (r : Reg) (v : Word) :
    hostWrite .word (regAddr r) v s = .next (s.writeReg r v).tick :=
  hostWrite_reg s r v fun hb => absurd hb (ne_true_of_eq_false h)

theorem State.writeCmd_idle {s : State} (h : s.busy = false) (w : Word) :
    s.writeCmd w = { s with cmd := w, busy := true } := by
  simp [State.writeCmd, h]

theorem State.writeCmd_busy {s : State} (h : s.busy = true) (w : Word) : s.writeCmd w = { s with ovr := true } := by
  simp [State.writeCmd, h]

/-- A write of a one clears the bit. -/
theorem State.writeStatus_eq (s : State) (w : Word) : s.writeStatus w = { s with
    done := if w.getLsbD 3 then false else s.done
    ovr := if w.getLsbD 4 then false else s.ovr } := by
  unfold State.writeStatus
  cases w.getLsbD 3 <;> cases w.getLsbD 4 <;> simp

/-- A write changes only the seven registers at these offsets (10_state.md R53). -/
theorem State.writeReg_readOnly (s : State) {r : Reg} (w : Word)
    (h : (regAddr r).toNat ∉ [0x04, 0x08, 0x10, 0x14, 0x2C, 0x30, 0x34]) : s.writeReg r w = s := by
  cases r with
  | cmd | status | ctrl | inLen | ufmtGeom | ufmtCtrl | din => exact absurd (by decide) h
  | _ => rfl

/-- STATUS from bit 0 up, its one-bit fields one at a time (10_state.md R23). -/
theorem State.statusWord_eq (s : State) : s.statusWord =
    ((((((0 : BitVec 24) ++ s.palSrc.code).concat s.ovr).concat s.done).concat s.fmtValid).concat s.err).concat s.busy :=
  rfl

/-- Above the five flags stands PAL_SRC, and zeros above it (10_state.md R23). -/
theorem State.statusWord_getLsbD_add_five (s : State) (i : Nat) :
    s.statusWord.getLsbD (i + 5) = s.palSrc.code.getLsbD i := by
  simp only [State.statusWord_eq, BitVec.getLsbD_concat_succ]
  rw [BitVec.getLsbD_append]
  by_cases h : i < 3
  · simp [h]
  · simp [h, BitVec.getLsbD_of_ge s.palSrc.code i (Nat.not_lt.mp h)]

theorem State.statusWord_palSrc (s : State) : s.statusWord.extractLsb' 5 3 = s.palSrc.code := by
  apply BitVec.eq_of_getLsbD_eq
  intro i hi
  rw [BitVec.getLsbD_extractLsb', Nat.add_comm, State.statusWord_getLsbD_add_five]
  simp [hi]

theorem State.statusWord_reserved (s : State) : s.statusWord.extractLsb' 8 24 = 0 := by
  apply BitVec.eq_of_getLsbD_eq
  intro i _
  rw [BitVec.getLsbD_extractLsb', show 8 + i = (i + 3) + 5 by omega, State.statusWord_getLsbD_add_five]
  simp

theorem State.ctrlWord_eq (s : State) : s.ctrlWord = if s.ie then 1 else 0 := by
  unfold State.ctrlWord
  cases s.ie <;> rfl

end Sys2Proof.Machine
end

section
/-! SUPPORT. What the host reads from the registers and what its writes of them do (10_state.md R20 to R39, R53). -/

namespace Sys2Proof.Machine

/-- Settles O53: below 0x020000 there is no buffer, the windows take no write, and a register that takes one is at one of the
seven offsets. -/
theorem readOnlyWritesAreIgnored : Obligations.ReadOnlyWritesAreIgnored := by
  unfold Obligations.ReadOnlyWritesAreIgnored
  intro s n a v hp hidle hok hlow hro
  rw [← busOk_iff_not_busErrorAt hp] at hok
  have hkeep : s.busWrite n a.toNat v (regionOf s.params a.toNat) = s := by
    rcases State.busWrite_cases s n a.toNat v (regionOf s.params a.toNat) with ⟨r, hr, hw⟩ | ⟨hr | hr, _⟩ | ⟨_, _, _, hw⟩
    · rw [hw]
      exact State.writeReg_readOnly s v (regAddr_of_busOk hok hr ▸ hro)
    · exact absurd (regionOf_eq_ibuf hr).1 (Nat.not_le.mpr hlow)
    · exact absurd (regionOf_eq_obuf hr).1 (Nat.not_le.mpr (hlow.trans (by decide)))
    · exact hw
  rcases hostWrite_cases n a v s with ⟨hbad, _⟩ | ⟨_, hb, _, _⟩ | ⟨_, _, hx⟩
  · exact absurd hok (ne_true_of_eq_false hbad)
  · exact absurd hb (ne_true_of_eq_false hidle)
  · rw [hx, hkeep]
    rfl

/-- Settles O8, by the write of CMD that is accepted and the one that is dropped. -/
theorem cmdWriteAcceptsOrSetsOverrun : Obligations.CmdWriteAcceptsOrSetsOverrun := by
  unfold Obligations.CmdWriteAcceptsOrSetsOverrun
  intro s w
  have hwrite : hostWrite .word 0x000004 w s = .next (s.writeCmd w).tick := hostWrite_reg s .cmd w fun _ => rfl
  constructor
  · intro h
    rw [hwrite, State.writeCmd_idle h]
    rfl
  · intro h
    rw [hwrite, State.writeCmd_busy h]
    rfl

/-- Settles O54: the word read bit by bit, and the write that clears by ones. -/
theorem statusReadsAndClears : Obligations.StatusReadsAndClears := by
  unfold Obligations.StatusReadsAndClears
  intro s w
  have hwrite : hostWrite .word 0x000008 w s = .next (s.writeStatus w).tick := hostWrite_reg s .status w fun _ => rfl
  refine ⟨⟨s.statusWord, hostRead_reg s .status fun _ => rfl, ?_, ?_, ?_, ?_, ?_, s.statusWord_palSrc,
    s.statusWord_reserved⟩, ?_⟩
  case refine_6 =>
    rw [hwrite, State.writeStatus_eq]
    rfl
  all_goals simp [State.statusWord_eq]

/-- Settles O55: each store and each read-back is one access at the register's address. -/
theorem writableRegistersStoreAndReadBack : Obligations.WritableRegistersStoreAndReadBack := by
  unfold Obligations.WritableRegistersStoreAndReadBack
  intro s w
  refine ⟨fun h => ?_, hostWrite_reg s .ctrl w fun _ => rfl, ?_⟩
  · exact ⟨hostWrite_reg_idle h .inLen w, hostWrite_reg_idle h .ufmtGeom w, hostWrite_reg_idle h .ufmtCtrl w,
      hostWrite_reg_idle h .din w, hostRead_reg_idle h .inLen, hostRead_reg_idle h .ufmtGeom,
      hostRead_reg_idle h .ufmtCtrl, hostRead_reg_idle h .din⟩
  · rw [← State.ctrlWord_eq]
    exact hostRead_reg s .ctrl fun _ => rfl

/-- Settles O56: each is one read at the register's address. -/
theorem readOnlyRegistersReadTheirState : Obligations.ReadOnlyRegistersReadTheirState := by
  unfold Obligations.ReadOnlyRegistersReadTheirState
  intro s
  refine ⟨hostRead_reg s .id fun _ => rfl, hostRead_reg s .cmd fun _ => rfl, hostRead_reg s .errcode fun _ => rfl,
    hostRead_reg s .cfgIbuf fun _ => rfl, hostRead_reg s .cfgObuf fun _ => rfl, hostRead_reg s .cfgBank fun _ => rfl,
    fun h => ?_⟩
  exact ⟨hostRead_reg_idle h .outLen, hostRead_reg_idle h .bankLen, hostRead_reg_idle h .fmtId,
    hostRead_reg_idle h .fmtGeom, hostRead_reg_idle h .fmtCtrl, hostRead_reg_idle h .doutLo, hostRead_reg_idle h .doutHi⟩

end Sys2Proof.Machine
end

section
/-! SUPPORT. Host accesses that complete, and the host accesses that are bus errors (20_memory.md R73). -/

namespace Sys2Proof.Machine

theorem bankMax_le_of_legal {p : Params} (hp : legalParams p = true) : p.bankMax ≤ 16 := by
  obtain ⟨_, _, ⟨_, hle⟩, _⟩ := (legalParams_iff p).mp hp
  exact hle

theorem Width.bytes_pos (n : Width) : 0 < n.bytes := by cases n <;> decide

theorem Width.bytes_le_four (n : Width) : n.bytes ≤ 4 := by cases n <;> decide

theorem hostRead_busError_iff {s : State} (hp : legalParams s.params = true) (n : Width) (a : Addr) :
    hostRead n a s = .fault (.hostBusError a.toNat n.bytes) ↔ busErrorAt s.params n a.toNat := by
  rw [← not_iff_not, ← busOk_iff_not_busErrorAt hp]
  rcases hostRead_cases n a s with ⟨hok, h⟩ | ⟨hok, _, _, h⟩ | ⟨hok, _, h⟩ <;> simp [h, hok]

theorem hostWrite_busError_iff {s : State} (hp : legalParams s.params = true) (n : Width) (a : Addr) (v : Word) :
    hostWrite n a v s = .fault (.hostBusError a.toNat n.bytes) ↔ busErrorAt s.params n a.toNat := by
  rw [← not_iff_not, ← busOk_iff_not_busErrorAt hp]
  rcases hostWrite_cases n a v s with ⟨hok, h⟩ | ⟨hok, _, _, h⟩ | ⟨hok, _, h⟩ <;> simp [h, hok]

/-- Settles O48: the bus error is the first check of both accesses, and it is the conditions of R73. -/
theorem busErrorsAreThoseOfTheMap : Obligations.BusErrorsAreThoseOfTheMap := by
  unfold Obligations.BusErrorsAreThoseOfTheMap
  exact fun _ n a v hp => ⟨hostRead_busError_iff hp n a, hostWrite_busError_iff hp n a v⟩

/-- A read that is no bus error and that R407 allows. -/
theorem hostRead_of_allowed {s : State} {n : Width} {a : Addr} (hok : busOk s.params n a.toNat = true)
    (hb : s.busy = true → (regionOf s.params a.toNat).readableWhileBusy = true) :
    hostRead n a s = .next { s with busData := some (s.busRead n a.toNat (regionOf s.params a.toNat)) } := by
  rcases hostRead_cases n a s with ⟨hbad, _⟩ | ⟨_, hbusy, hno, _⟩ | ⟨_, _, h⟩
  · exact absurd hok (ne_true_of_eq_false hbad)
  · exact absurd (hb hbusy) (ne_true_of_eq_false hno)
  · exact h

theorem hostRead_idle {s : State} (hidle : s.busy = false) {n : Width} {a : Addr}
    (hok : busOk s.params n a.toNat = true) :
    hostRead n a s = .next { s with busData := some (s.busRead n a.toNat (regionOf s.params a.toNat)) } :=
  hostRead_of_allowed hok fun hb => absurd hb (ne_true_of_eq_false hidle)

theorem hostWrite_idle {s : State} (hidle : s.busy = false) {n : Width} {a : Addr} (v : Word)
    (hok : busOk s.params n a.toNat = true) :
    hostWrite n a v s = .next (s.busWrite n a.toNat v (regionOf s.params a.toNat)).tick := by
  rcases hostWrite_cases n a v s with ⟨hbad, _⟩ | ⟨_, hbusy, _, _⟩ | ⟨_, _, h⟩
  · exact absurd hok (ne_true_of_eq_false hbad)
  · exact absurd hbusy (ne_true_of_eq_false hidle)
  · exact h

/-! Reads have no side effects (20_memory.md R83). -/

/-- No region shows the data the bus returned before. -/
theorem State.busRead_busData (s : State) (d : Option Word) (n : Width) (a : Nat) (g : Region) :
    State.busRead { s with busData := d } n a g = s.busRead n a g := by
  cases g with
  | reg r => cases r <;> rfl
  | palx | pbank | brom | formatRom | ibuf | obuf | unmapped => rfl

/-- What a read does does not depend on the data the bus returned before. -/
theorem hostRead_busData (n : Width) (a : Addr) (s : State) (d : Option Word) :
    hostRead n a { s with busData := d } = hostRead n a s := by
  unfold hostRead
  dsimp only
  rw [State.busRead_busData]

/-- Settles O50: a read that completes writes the bus data only, and no read depends on that. -/
theorem readsHaveNoSideEffectsAndRepeat : Obligations.ReadsHaveNoSideEffectsAndRepeat := by
  unfold Obligations.ReadsHaveNoSideEffectsAndRepeat
  intro n a s t ht
  have hframe : t = { s with busData := t.busData } := by
    rcases hostRead_cases n a s with ⟨_, h⟩ | ⟨_, _, _, h⟩ | ⟨_, _, h⟩ <;> rw [h] at ht <;> cases ht
    rfl
  refine ⟨hframe, ?_⟩
  rw [← ht, hframe]
  exact hostRead_busData n a s _

end Sys2Proof.Machine
end

section
/-! SUPPORT. Host accesses to IBUF and OBUF (20_memory.md R71, R74, R75). -/

namespace Sys2Proof.Machine

/-- An access from 0x020000 up that is no bus error falls on IBUF or OBUF (20_memory.md R72). -/
theorem regionOf_buffer {p : Params} (hp : legalParams p = true) {n : Width} {a : Nat} (hok : busOk p n a = true)
    (ha : 0x20000 ≤ a) : regionOf p a = .ibuf ∨ regionOf p a = .obuf := by
  have hbank := bankMax_le_of_legal hp
  obtain ⟨_, _, hallow⟩ := (busOk_iff p n a).mp hok
  rcases regionOf_cases p a with ⟨_, hr⟩ | ⟨h, _⟩ | ⟨h, _⟩ | ⟨h, _⟩ | ⟨h, _⟩ | ⟨h, _⟩ | ⟨_, hr⟩ | ⟨_, hr⟩
  · simp [hr, Region.allows] at hallow
  case inr.inr.inr.inr.inr.inr.inl => exact .inl hr
  case inr.inr.inr.inr.inr.inr.inr => exact .inr hr
  all_goals omega

theorem hostRead_buffer {s : State} (hp : legalParams s.params = true) (hidle : s.busy = false) {n : Width} {a : Addr}
    (hok : busOk s.params n a.toNat = true) (ha : 0x20000 ≤ a.toNat) :
    hostRead n a s = .next { s with
      busData := some (littleEndian ((List.range n.bytes).map fun k => s.byteAt (a.toNat + k))) } := by
  rw [hostRead_idle hidle hok]
  rcases regionOf_buffer hp hok ha with hr | hr <;> rw [hr] <;> rfl

theorem hostWrite_buffer {s : State} (hp : legalParams s.params = true) (hidle : s.busy = false) {n : Width} {a : Addr}
    (v : Word) (hok : busOk s.params n a.toNat = true) (ha : 0x20000 ≤ a.toNat) :
    hostWrite n a v s = .next { s with
      mem := s.mem.store a.toNat (bytesOf n.bytes v), freeIndex := s.freeIndex + 1 } := by
  rw [hostWrite_idle hidle v hok]
  rcases regionOf_buffer hp hok ha with hr | hr <;> rw [hr] <;> rfl

/-- Byte k of a write of n bytes (20_memory.md R71). -/
theorem Memory.read_store_bytesOf (m : Memory) {base n k : Nat} (v : Word) (hbase : 0x20000 ≤ base) (hk : k < n) :
    (m.store base (bytesOf n v)).read (base + k) = some (v.extractLsb' (8 * k) 8) := by
  have hrom : bromBase + bromSize ≤ base + k := by unfold bromBase bromSize; omega
  rw [Memory.read_store_inside m hrom (by omega) (by rw [bytesOf_length]; omega), Nat.add_sub_cancel_left,
    bytesOf_getElem? v hk]

theorem State.byteAt_of_read {s : State} {a : Nat} {b : Byte} (h : s.mem.read a = some b) : s.byteAt a = b := by
  simp [State.byteAt, h]

/-- Bit i of a little-endian number is bit i mod 8 of byte i div 8 (20_memory.md R71). -/
theorem littleEndian_getLsbD (bs : List Byte) {i : Nat} (hi : i < 32) :
    (littleEndian bs).getLsbD i = (bs[i / 8]?.getD 0).getLsbD (i % 8) := by
  have hmod : i % 8 < 8 := Nat.mod_lt _ (by decide)
  rw [← littleEndian_byte bs (by omega : i / 8 < 4), BitVec.getLsbD_extractLsb', Nat.div_add_mod]
  simp [hmod]

/-- The bytes of a word, put together again, are its low bits. -/
theorem littleEndian_bytesOf (n : Nat) (v : Word) :
    littleEndian (bytesOf n v) = BitVec.ofNat 32 (v.toNat % 2 ^ (8 * n)) := by
  apply BitVec.eq_of_getLsbD_eq
  intro i hi
  rw [littleEndian_getLsbD _ hi, BitVec.getLsbD_ofNat, Nat.testBit_mod_two_pow]
  by_cases h : i / 8 < n
  · have hbit : 8 * (i / 8) + i % 8 = i := Nat.div_add_mod i 8
    have hlow : i < 8 * n := by omega
    have hmod : i % 8 < 8 := Nat.mod_lt _ (by decide)
    rw [bytesOf_getElem? v h, Option.getD_some, BitVec.getLsbD_extractLsb', hbit]
    simp [hi, hlow, hmod, BitVec.getLsbD]
  · have hhigh : ¬ i < 8 * n := by omega
    rw [List.getElem?_eq_none (by rw [bytesOf_length]; omega)]
    simp [hhigh]

/-- A read of written bytes: each byte in its place, zeros above them (20_memory.md R71). -/
theorem hostRead_written {s : State} (hp : legalParams s.params = true) (hidle : s.busy = false) {n : Width} {a : Addr}
    (hok : busOk s.params n a.toNat = true) (ha : 0x20000 ≤ a.toNat) {b : Nat → Byte}
    (hb : ∀ k < n.bytes, s.mem.read (a.toNat + k) = some (b k)) :
    hostRead n a s = .next { s with busData := some (littleEndian ((List.range n.bytes).map b)) } := by
  have hbytes : (List.range n.bytes).map (fun k => s.byteAt (a.toNat + k)) = (List.range n.bytes).map b :=
    List.map_congr_left fun k hk => State.byteAt_of_read (hb k (List.mem_range.mp hk))
  rw [hostRead_buffer hp hidle hok ha, hbytes]

/-- Byte k of the word whose bytes are b 0, b 1, … -/
theorem littleEndian_range_byte (n : Width) (b : Nat → Byte) {k : Nat} (hk : k < n.bytes) :
    (littleEndian ((List.range n.bytes).map b)).extractLsb' (8 * k) 8 = b k := by
  rw [littleEndian_byte _ (hk.trans_le n.bytes_le_four), List.getElem?_map, List.getElem?_range hk]
  rfl

/-- Settles O51: the one store of a buffer write, read inside and outside. -/
theorem bufferWriteStoresItsBytes : Obligations.BufferWriteStoresItsBytes := by
  unfold Obligations.BufferWriteStoresItsBytes
  intro s n a v hp hidle hok ha
  rw [← busOk_iff_not_busErrorAt hp] at hok
  refine ⟨_, hostWrite_buffer hp hidle v hok ha, rfl, ?_, ?_⟩
  · exact fun k hk => Memory.read_store_bytesOf s.mem v ha hk
  · exact fun x hx => Memory.read_store_outside s.mem (by rwa [bytesOf_length])

/-- Settles O52: a read puts the bytes of memory together, and a write has put there the bytes of its word. -/
theorem bufferReadReturnsWhatWasWritten : Obligations.BufferReadReturnsWhatWasWritten := by
  unfold Obligations.BufferReadReturnsWhatWasWritten
  constructor
  · intro s n a b hp hidle hok ha hb
    rw [← busOk_iff_not_busErrorAt hp] at hok
    have hlt := littleEndian_lt ((List.range n.bytes).map b)
    rw [List.length_map, List.length_range] at hlt
    exact ⟨_, hostRead_written hp hidle hok ha hb, hlt, fun k hk => littleEndian_range_byte n b hk⟩
  · intro s t n a v hp hidle ha ht
    have hok : busOk s.params n a.toNat = true := by
      rcases hostWrite_cases n a v s with ⟨_, h⟩ | ⟨hok, _⟩ | ⟨hok, _⟩
      · simp [h] at ht
      · exact hok
      · exact hok
    rw [hostWrite_buffer hp hidle v hok ha] at ht
    have hparams : t.params = s.params := by cases ht; rfl
    have hbusy : t.busy = s.busy := by cases ht; rfl
    have hbytes : ∀ k < n.bytes, t.mem.read (a.toNat + k) = some (v.extractLsb' (8 * k) 8) := by
      cases ht
      exact fun k hk => Memory.read_store_bytesOf s.mem v ha hk
    rw [← hparams] at hp hok
    rw [← littleEndian_bytesOf]
    exact hostRead_written hp (hbusy.trans hidle) hok ha hbytes

end Sys2Proof.Machine
end

section
/-! SUPPORT. The windows of the palette bank and of the ROMs: where each word of them lies and what a read of it shows
(20_memory.md R78 to R80). -/

namespace Sys2Proof.Machine

/-- A word access at an aligned address whose four bytes are mapped is no bus error (20_memory.md R73). -/
theorem busOk_word {p : Params} {a : Nat} (hm : ∀ k < 4, mappedByte p (a + k)) (ha : a % 4 = 0) :
    busOk p .word a = true := by
  have hmapped := (regionOf_ne_unmapped_iff p a).mpr (hm 0 (by decide))
  refine (busOk_iff p .word a).mpr ⟨fun k hk => (regionOf_ne_unmapped_iff p _).mpr (hm k hk), ha, ?_⟩
  cases hr : regionOf p a with
  | unmapped => exact absurd hr hmapped
  | reg | palx | pbank | brom | formatRom | ibuf | obuf => rfl

theorem regionOf_pbank {p : Params} {a : Nat} (h : 0x800 ≤ a) (h' : a < 0x800 + p.bankMax * 64) :
    regionOf p a = .pbank ((a - 0x800) / 64) ((a - 0x800) % 64 / 4) := by
  unfold regionOf
  rw [if_neg (by omega), if_neg (by omega), if_pos ⟨h, h'⟩]

theorem regionOf_brom {p : Params} (hp : p.bankMax ≤ 16) {a : Nat} (h : 0xC00 ≤ a) (h' : a < 0xCC0) :
    regionOf p a = .brom := by
  unfold regionOf
  rw [if_neg (by omega), if_neg (by omega), if_neg (by omega), if_pos ⟨h, h'⟩]

theorem regionOf_formatRom {p : Params} (hp : p.bankMax ≤ 16) {a : Nat} (h : 0xD00 ≤ a) (h' : a < 0xD80) :
    regionOf p a = .formatRom ((a - 0xD00) / 8) (decide ((a - 0xD00) % 8 / 4 = 1)) := by
  unfold regionOf
  rw [if_neg (by omega), if_neg (by omega), if_neg (by omega), if_neg (by unfold bromBase bromSize; omega),
    if_pos ⟨h, h'⟩]

/-- The word of entry i of slot j below BANK_LEN (20_memory.md R78, 00_scope.md R14). -/
theorem State.bankWord_of_loaded {s : State} {j i : Fin 16} {p : Palette} (hj : j.val < s.bankLength)
    (hp : s.pbank[j] = some p) : s.bankWord j i = rgb p[i] := by
  have hi : i.val % 16 = i.val := Nat.mod_eq_of_lt i.isLt
  unfold State.bankWord
  rw [if_pos hj, State.bankSlot_of_some j.isLt hp]
  simp only [hi]
  rfl

/-- Settles O58, by where the entry's word lies in the window. -/
theorem pbankWindowShowsTheLoadedBank : Obligations.PbankWindowShowsTheLoadedBank := by
  unfold Obligations.PbankWindowShowsTheLoadedBank
  intro s j i p hp hidle hj hlen hslot
  have hbank := bankMax_le_of_legal hp
  have hslotInBank : j.val + 1 ≤ s.params.bankMax := hj.trans_le hlen
  obtain ⟨a, ha⟩ : ∃ a, a = 0x800 + 64 * j.val + 4 * i.val := ⟨_, rfl⟩
  have haddr : (BitVec.ofNat 24 (0x800 + 64 * j.val + 4 * i.val)).toNat = a := by
    rw [BitVec.toNat_ofNat, ha]
    omega
  have hwindow : ∀ k < 4, mappedByte s.params (a + k) := by
    intro k hk
    unfold mappedByte
    omega
  have hregion : regionOf s.params a = .pbank j i := by
    rw [regionOf_pbank (by omega) (by omega)]
    congr 1 <;> omega
  have hok := busOk_word hwindow (by omega)
  rw [← haddr] at hok hregion
  rw [hostRead_idle hidle hok, hregion, State.busRead, State.bankWord_of_loaded hj hslot]
  rfl

/-- An access that stays in the BROM window and is aligned is no bus error (20_memory.md R79). -/
theorem busOk_brom {p : Params} (hp : p.bankMax ≤ 16) {n : Width} {o : Nat} (ho : o + n.bytes ≤ 192)
    (hal : o % n.bytes = 0) : busOk p n (0xC00 + o) = true := by
  have hpos := n.bytes_pos
  have hin : ∀ k < n.bytes, regionOf p (0xC00 + o + k) = .brom := fun k hk =>
    regionOf_brom hp (by omega) (by omega)
  have haligned : (0xC00 + o) % n.bytes = 0 := by
    have hdvd : n.bytes ∣ 0xC00 := by cases n <;> decide
    exact Nat.mod_eq_zero_of_dvd (hdvd.add (Nat.dvd_of_mod_eq_zero hal))
  refine (busOk_iff p n _).mpr ⟨fun k hk => by simp [hin k hk], haligned, ?_⟩
  rw [show regionOf p (0xC00 + o) = .brom from hin 0 hpos]
  rfl

/-- A read of the BROM window shows the parameter's bytes, busy or not (20_memory.md R79). -/
theorem hostRead_brom {s : State} (hp : legalParams s.params = true) {n : Width} {o : Nat} (ho : o + n.bytes ≤ 192)
    (hal : o % n.bytes = 0) :
    hostRead n (BitVec.ofNat 24 (0xC00 + o)) s = .next { s with
      busData := some (littleEndian ((List.range n.bytes).map fun k => Config.builtinRom (o + k))) } := by
  have hbank := bankMax_le_of_legal hp
  have hpos := n.bytes_pos
  have haddr : (BitVec.ofNat 24 (0xC00 + o)).toNat = 0xC00 + o := by
    rw [BitVec.toNat_ofNat]
    omega
  have hok := busOk_brom hbank ho hal
  have hregion : regionOf s.params (0xC00 + o) = .brom := regionOf_brom hbank (by omega) (by omega)
  have hbytes : (List.range n.bytes).map (fun k => s.byteAt (0xC00 + o + k)) =
      (List.range n.bytes).map fun k => Config.builtinRom (o + k) := by
    refine List.map_congr_left fun k hk => State.byteAt_of_read ?_
    have hk' : k < n.bytes := List.mem_range.mp hk
    rw [Nat.add_assoc]
    exact Memory.read_brom s.mem (by unfold bromSize; omega)
  rw [← haddr] at hok hregion
  rw [hostRead_of_allowed hok fun _ => by rw [hregion]; rfl, hregion, haddr, ← hbytes]
  rfl

/-- A read of a word of the FROM window, the GEOM word or the CTRL word of format ID f, busy or not (20_memory.md R80). -/
theorem hostRead_formatRom {s : State} (hp : legalParams s.params = true) {f : Nat} (hf : f < 16) (ctrl : Bool)
    {a : Addr} (ha : a.toNat = 0xD00 + 8 * f + 4 * ctrl.toNat) :
    hostRead .word a s = .next { s with busData := some (s.formatRomWord f ctrl) } := by
  have hbank := bankMax_le_of_legal hp
  have hctrl : ctrl.toNat < 2 := ctrl.toNat_lt
  have hwindow : ∀ k < 4, mappedByte s.params (a.toNat + k) := by
    intro k hk
    unfold mappedByte
    omega
  have hok := busOk_word hwindow (by omega)
  have hregion : regionOf s.params a.toNat = .formatRom f ctrl := by
    rw [regionOf_formatRom hbank (by omega) (by omega)]
    congr 1
    · omega
    · rw [show (a.toNat - 0xD00) % 8 / 4 = ctrl.toNat by omega]
      cases ctrl <;> rfl
  rw [hostRead_of_allowed hok fun _ => by rw [hregion]; rfl, hregion]
  rfl

theorem State.formatRomWord_entry (s : State) (f : Fin 15) (ctrl : Bool) : s.formatRomWord f ctrl =
    if ctrl then s.params.formatRom[f].ctrl else s.params.formatRom[f].geom := dif_pos f.isLt

/-- Settles O59: every word of the two windows at its place. -/
theorem romWindowsShowTheRoms : Obligations.RomWindowsShowTheRoms := by
  unfold Obligations.RomWindowsShowTheRoms
  intro s hp
  refine ⟨fun n o ho hal => ?_, fun f => ⟨?_, ?_⟩, ?_, ?_⟩
  · exact ⟨_, hostRead_brom hp ho hal, fun k hk => littleEndian_range_byte n _ hk⟩
  · rw [hostRead_formatRom hp (f := f) (by omega) false
      (by simp only [BitVec.toNat_ofNat, Bool.toNat_false]; omega), State.formatRomWord_entry]
    rfl
  · rw [hostRead_formatRom hp (f := f) (by omega) true
      (by simp only [BitVec.toNat_ofNat, Bool.toNat_true]; omega), State.formatRomWord_entry]
    rfl
  · exact hostRead_formatRom hp (f := 15) (by decide) false rfl
  · exact hostRead_formatRom hp (f := 15) (by decide) true rfl

end Sys2Proof.Machine
end

section
/-! SUPPORT. The user descriptor registers are read by SELFMT 15 only (20_memory.md R88): every other command does the same
whatever they hold, and leaves them as they are. -/

namespace Sys2Proof.Machine

/-- s with g in UFMT_GEOM and c in UFMT_CTRL. -/
def State.withUser (g c : Word) (s : State) : State := { s with ufmtGeom := g, ufmtCtrl := c }

/-- The outcome with f applied to its next state, if it has one. -/
def mapNext (f : State → State) : Host.Outcome State Fault Refusal → Host.Outcome State Fault Refusal
  | .next s => .next (f s)
  | .fault r => .fault r
  | .refused r => .refused r

section
variable (g c : Word) (s : State)

theorem State.withInput_withUser (offsets : List Nat) (o : Host.Outcome State Fault Refusal) :
    (s.withUser g c).withInput offsets (mapNext (State.withUser g c) o) =
      mapNext (State.withUser g c) (s.withInput offsets o) := by
  have hfirst : (s.withUser g c).firstUnwritten offsets = s.firstUnwritten offsets :=
    State.firstUnwritten_congr fun _ _ => rfl
  unfold State.withInput
  rw [hfirst]
  cases s.firstUnwritten offsets <;> rfl

theorem State.descOf_withUser {fid : FormatId} (h : fid ≠ 15) : (s.withUser g c).descOf fid = s.descOf fid := by
  have hlt : fid.toNat < 15 := by
    have hne : fid.toNat ≠ 15 := fun h15 => h (BitVec.eq_of_toNat_eq h15)
    omega
  rw [State.descOf_rom _ hlt, State.descOf_rom _ hlt]
  rfl

theorem State.attachPalette_withUser (rule : PaletteRule) :
    (s.withUser g c).attachPalette rule = (s.attachPalette rule).withUser g c := by
  have hres : (s.withUser g c).resolvePal rule = s.resolvePal rule := State.resolvePal_congr rfl rfl rfl rule
  unfold State.attachPalette
  rw [hres]
  cases s.resolvePal rule <;> rfl

theorem State.attachAndComplete_withUser :
    (s.withUser g c).attachAndComplete = mapNext (State.withUser g c) s.attachAndComplete := by
  have hrule : (s.withUser g c).fmtRule = s.fmtRule := rfl
  unfold State.attachAndComplete
  rw [hrule]
  cases s.fmtRule with
  | none => rfl
  | some rule => simp only [State.attachPalette_withUser]; rfl

theorem execSelfmt_withUser {fid : FormatId} (h : fid ≠ 15) :
    execSelfmt fid (s.withUser g c) = mapNext (State.withUser g c) (execSelfmt fid s) := by
  unfold execSelfmt
  rw [State.descOf_withUser g c s h]
  simp only [apply_ite (mapNext (State.withUser g c))]
  rfl

theorem execLdbank_withUser : execLdbank (s.withUser g c) = mapNext (State.withUser g c) (execLdbank s) := by
  unfold execLdbank
  simp only [apply_ite (mapNext (State.withUser g c)), ← State.withInput_withUser]
  rfl

theorem execLdpal_withUser : execLdpal (s.withUser g c) = mapNext (State.withUser g c) (execLdpal s) := by
  unfold execLdpal
  simp only [apply_ite (mapNext (State.withUser g c)), ← State.withInput_withUser]
  rfl

theorem execResolve_withUser : execResolve (s.withUser g c) = mapNext (State.withUser g c) (execResolve s) := by
  unfold execResolve
  simp only [apply_ite (mapNext (State.withUser g c)), ← State.attachAndComplete_withUser]
  rfl

theorem execDecode_withUser : execDecode (s.withUser g c) = mapNext (State.withUser g c) (execDecode s) := by
  have hkind : (s.withUser g c).fmtKind = s.fmtKind := rfl
  unfold execDecode
  rw [hkind]
  simp only [apply_ite (mapNext (State.withUser g c)), ← State.withInput_withUser]
  cases s.fmtKind with
  | bitplane4 => simp only [← State.attachAndComplete_withUser]; rfl
  | font1bit => rfl

/-- Every command but SELFMT 15 does the same whatever the user descriptor registers hold, and keeps what they hold. -/
theorem exec_withUser {i : Instr} (hi : i ≠ .selfmt 15) :
    exec i (s.withUser g c) = mapNext (State.withUser g c) (exec i s) := by
  cases i with
  | nop | deint | unpack => rfl
  | selfmt fid => exact execSelfmt_withUser g c s fun h => hi (h ▸ rfl)
  | ldbank => exact execLdbank_withUser g c s
  | ldpal => exact execLdpal_withUser g c s
  | resolve => exact execResolve_withUser g c s
  | decode => exact execDecode_withUser g c s

end

/-- Settles O44, from the same law of every command. -/
theorem userDescriptorIsLatched : Obligations.UserDescriptorIsLatched := by
  unfold Obligations.UserDescriptorIsLatched
  intro i s t g c hi ht
  change exec i (s.withUser g c) = mapNext (State.withUser g c) (.next t)
  rw [exec_withUser g c s hi, ht]

end Sys2Proof.Machine
end

section
/-! SUPPORT. The decoder (30_encoding.md R100, R103, R104): what it answers, by the fields of the word. -/

namespace Sys2Proof

/-- A word is its three fields side by side (R100). -/
theorem word_eq_fields (w : Word) : w = rsvField w ++ fidField w ++ opField w := by
  apply BitVec.eq_of_getLsbD_eq
  intro i hi
  simp only [rsvField, fidField, opField, BitVec.getLsbD_append, BitVec.getLsbD_extractLsb']
  by_cases h8 : i < 8
  · simp [h8]
  by_cases h12 : i < 12
  · simp [h8, show i - 8 < 4 by omega, show 8 + (i - 8) = i by omega]
  · simp [h8, show ¬ i - 8 < 4 by omega, show i - 8 - 4 < 20 by omega, show 12 + (i - 8 - 4) = i by omega]

/-- The legality predicate of R104 as a proposition over the fields. -/
theorem legalWord_iff (w : Word) :
    legalWord w = true ↔ (opField w).toNat ≤ 0x07 ∧ rsvField w = 0 ∧ (opField w = 0x01 ∨ fidField w = 0) := by
  simp only [legalWord, Bool.and_eq_true, Bool.or_eq_true, decide_eq_true_eq, beq_iff_eq, and_assoc]

/-- The fields of a command decode to it, with RSV = 0 (R103). -/
theorem decode_of_fields {w : Word} {i : Instr} (hop : opField w = i.opcode) (hfid : fidField w = i.fid)
    (hrsv : rsvField w = 0) : decode w = .ok i := by
  unfold decode
  rw [if_neg (not_not_intro hrsv), hop, hfid]
  cases i <;> rfl

/-- A word that decodes has the fields of the command it decodes to, and RSV = 0 (R103, R104). -/
theorem fields_of_decode {w : Word} {i : Instr} (h : decode w = .ok i) :
    opField w = i.opcode ∧ fidField w = i.fid ∧ rsvField w = 0 := by
  unfold decode at h
  split at h
  · cases h
  next hrsv =>
  have hop : ∀ {op : Byte}, (opField w).toNat = op.toNat → opField w = op := BitVec.eq_of_toNat_eq
  split at h
  case h_2 hn => cases h; exact ⟨hop hn, rfl, not_not.mp hrsv⟩
  case h_9 => cases h
  all_goals -- the seven commands with FID = 0
    next hn =>
    split at h
    next hfid => cases h; exact ⟨hop hn, hfid, not_not.mp hrsv⟩
    next => cases h

/-- The command's word is legal and its fields are the command's, for every command. -/
theorem encode_fields (i : Instr) : Laws.EncodesLegally.Statement i := by
  cases i with
  | nop => exact Laws.EncodesLegally.nop
  | selfmt fid => exact Laws.EncodesLegally.selfmt fid
  | ldbank => exact Laws.EncodesLegally.ldbank
  | ldpal => exact Laws.EncodesLegally.ldpal
  | resolve => exact Laws.EncodesLegally.resolve
  | decode => exact Laws.EncodesLegally.decode
  | deint => exact Laws.EncodesLegally.deint
  | unpack => exact Laws.EncodesLegally.unpack

theorem decode_encode (i : Instr) : decode (encode i) = .ok i := by
  obtain ⟨hlegal, hop, hfid⟩ := encode_fields i
  obtain ⟨_, hrsv, _⟩ := (legalWord_iff _).mp hlegal
  exact decode_of_fields hop hfid hrsv

/-- No bit of a word that decodes is dropped: it is the encoding of what it decodes to. -/
theorem encode_of_decode {w : Word} {i : Instr} (h : decode w = .ok i) : encode i = w := by
  obtain ⟨hop, hfid, hrsv⟩ := fields_of_decode h
  rw [word_eq_fields w, hop, hfid, hrsv, encode]

/-- The type of a command's format ID admits nothing else (R102). -/
theorem Instr.wellFormed (i : Instr) : i.WellFormed = true := by
  cases i with
  | selfmt fid => exact decide_eq_true (Nat.le_of_lt_succ fid.isLt)
  | _ => rfl

/-- Settles O1, by the fields of the word in both directions. -/
theorem decodeAndEncodeAgree : Obligations.DecodeAndEncodeAgree := by
  unfold Obligations.DecodeAndEncodeAgree
  exact ⟨fun i _ => decode_encode i, fun _ i h => ⟨i.wellFormed, encode_of_decode h⟩⟩

/-- The opcodes 0x00 to 0x07 are those of the commands, and every FID is one of SELFMT (R102, R103). -/
theorem exists_instr_of_fields {op : Byte} {fid : FormatId} (hop : op.toNat ≤ 0x07) (hfid : op = 0x01 ∨ fid = 0) :
    ∃ i : Instr, op = i.opcode ∧ fid = i.fid := by
  rcases hfid with rfl | rfl
  · exact ⟨.selfmt fid, rfl, rfl⟩
  · have hall : ∀ op : Byte, op.toNat ≤ 0x07 →
        ∃ i ∈ [Instr.nop, .selfmt 0, .ldbank, .ldpal, .resolve, .decode, .deint, .unpack],
          op = i.opcode ∧ 0 = i.fid := by decide
    obtain ⟨i, _, hi⟩ := hall op hop
    exact ⟨i, hi⟩

theorem decode_ok_of_legal {w : Word} (h : legalWord w = true) : ∃ i, decode w = .ok i := by
  obtain ⟨hop, hrsv, hfid⟩ := (legalWord_iff w).mp h
  obtain ⟨i, hi, hi'⟩ := exists_instr_of_fields hop hfid
  exact ⟨i, decode_of_fields hi hi' hrsv⟩

theorem legal_of_decode_ok {w : Word} {i : Instr} (h : decode w = .ok i) : legalWord w = true := by
  obtain ⟨hlegal, _, _⟩ := encode_fields i
  rwa [encode_of_decode h] at hlegal

/-- Settles O2: the decoder evaluated at each legal word; each illegal one fails R104. -/
theorem specWordsDecode : Obligations.SpecWordsDecode := by
  unfold Obligations.SpecWordsDecode
  refine ⟨by decide, by decide, by decide, by decide, by decide, by decide, by decide, by decide, by decide, by decide,
    fun w hw i h => ?_⟩
  have hlegal := legal_of_decode_ok h
  simp only [List.mem_cons, List.not_mem_nil, or_false] at hw
  rcases hw with rfl | rfl | rfl <;> exact absurd hlegal (by decide)

end Sys2Proof
end

section
/-! SUPPORT. One turn of the schedule: the Engine's by the pending word, the host's by its next operation. -/

namespace Sys2Proof.Machine

theorem State.nextTurn_of_head? {s : State} {turn : Turn} (h : s.schedule.head? = some turn) : s.nextTurn = turn := by
  obtain ⟨rest, hrest⟩ := List.head?_eq_some_iff.mp h
  simp [State.nextTurn, hrest]

/-- The Engine's turn with a legal word pending (R405). -/
theorem step_of_decode_ok {s : State} {i : Instr} (hp : legalParams s.params = true) (hturn : s.nextTurn = .engine)
    (hbusy : s.busy = true) (hd : decode s.cmd = .ok i) : step s = exec i s.engineState := by
  rcases step_cases hp with ⟨j, _, _, hj, h⟩ | ⟨e, _, _, he, _⟩ | ⟨_, hb, _⟩ | ⟨ht, _⟩ | ⟨ht, _⟩
  · cases hd.symm.trans hj; exact h
  · cases hd.symm.trans he
  · cases hbusy.symm.trans hb
  · cases hturn.symm.trans ht
  · cases hturn.symm.trans ht

/-- The Engine's turn with an illegal word pending (R305). -/
theorem step_of_illegal {s : State} (hp : legalParams s.params = true) (hturn : s.nextTurn = .engine)
    (hbusy : s.busy = true) (hl : ¬ legalWord s.cmd = true) : step s = .next (s.engineState.raise .illegalCmd) := by
  rcases step_cases hp with ⟨i, _, _, hi, _⟩ | ⟨e, _, _, _, h⟩ | ⟨_, hb, _⟩ | ⟨ht, _⟩ | ⟨ht, _⟩
  · exact absurd (legal_of_decode_ok hi) hl
  · exact h
  · cases hbusy.symm.trans hb
  · cases hturn.symm.trans ht
  · cases hturn.symm.trans ht

/-- Settles O4: by R104 the decoder answers a command for the word, or no command. -/
theorem pendingWordRunsExactlyWhenLegal : Obligations.PendingWordRunsExactlyWhenLegal := by
  unfold Obligations.PendingWordRunsExactlyWhenLegal
  intro s hp hbusy hhead
  have hturn := State.nextTurn_of_head? hhead
  refine ⟨fun hl => ?_, fun hl => ?_⟩
  · obtain ⟨i, hi⟩ := decode_ok_of_legal ((legalWord_iff s.cmd).mpr hl)
    exact ⟨i, hi, step_of_decode_ok hp hturn hbusy hi⟩
  · exact step_of_illegal hp hturn hbusy (mt (legalWord_iff s.cmd).mp hl)

/-- The host's turn (R118). -/
theorem step_of_host {s : State} (hp : legalParams s.params = true) (hturn : s.nextTurn = .host) :
    step s = hostStep s.takeTurn := by
  rcases step_cases hp with ⟨_, ht, _⟩ | ⟨_, ht, _⟩ | ⟨ht, _⟩ | ⟨_, h⟩ | ⟨ht, _⟩
  · cases hturn.symm.trans ht
  · cases hturn.symm.trans ht
  · cases hturn.symm.trans ht
  · exact h
  · cases hturn.symm.trans ht

theorem hostStep_read {s : State} {n : Width} {a : Addr} {rest : List HostOp} (h : s.program = .read n a :: rest) :
    hostStep s = hostRead n a { s with program := rest } := by
  simp only [hostStep, h]

theorem hostStep_write {s : State} {n : Width} {a : Addr} {v : Word} {rest : List HostOp}
    (h : s.program = .write n a v :: rest) : hostStep s = hostWrite n a v { s with program := rest } := by
  simp only [hostStep, h]

/-- Bit 0 of STATUS is BUSY (10_state.md R23). -/
theorem State.statusWord_busy (s : State) : s.statusWord.getLsbD 0 = s.busy := by
  rw [State.statusWord_eq, BitVec.getLsbD_concat_zero]

/-- WAIT reads STATUS and stays while BUSY = 1. -/
theorem hostStep_wait {s : State} {rest : List HostOp} (h : s.program = .wait :: rest) :
    hostStep s = .next { s with
      busData := some s.statusWord, program := if s.busy then .wait :: rest else rest } := by
  simp only [hostStep, h, State.readReg, State.statusWord_busy]

/-- Settles O5, by the host's three operations. -/
theorem stepRunsTheHostOperation : Obligations.StepRunsTheHostOperation := by
  unfold Obligations.StepRunsTheHostOperation
  intro s rest hp hhead
  rw [step_of_host hp (State.nextTurn_of_head? hhead)]
  exact ⟨fun n a h => hostStep_read h, fun n a v h => hostStep_write h, fun h => hostStep_wait h⟩

end Sys2Proof.Machine
end

section
/-! SUPPORT. The shapes of a legal descriptor (30_encoding.md R111, R115). -/

namespace Sys2Proof.Machine

theorem ctrlKind_eq_bitplane4_iff (c : CtrlBits) : ctrlKind c = .bitplane4 ↔ c.getLsbD 0 = false := by
  unfold ctrlKind
  cases c.getLsbD 0 <;> simp

theorem ctrlKind_eq_font1bit_iff (c : CtrlBits) : ctrlKind c = .font1bit ↔ c.getLsbD 0 = true := by
  unfold ctrlKind
  cases c.getLsbD 0 <;> simp

/-- `legalDesc` as the shapes (a), (b) and (c) of R115 over the fields of R111. -/
theorem legalDesc_iff (c : CtrlBits) :
    legalDesc c = true ↔ c.extractLsb' 16 15 = 0 ∧ c.extractLsb' 4 4 = 0 ∧ c.getLsbD 1 = false ∧
      ((ctrlKind c = .bitplane4 ∧ ctrlPrule c = 1 ∧ (ctrlParg c).toNat ≤ 2) ∨
        (ctrlKind c = .bitplane4 ∧ ctrlPrule c = 2) ∨
        (ctrlKind c = .font1bit ∧ ctrlPrule c = 0 ∧ ctrlParg c = 0)) := by
  simp only [legalDesc, Bool.and_eq_true, Bool.or_eq_true, Bool.not_eq_true', beq_iff_eq, decide_eq_true_eq, and_assoc,
    or_assoc]

/-- Settles O17, by the bit that is KIND. -/
theorem legalDescriptorsHaveThreeShapes : Obligations.LegalDescriptorsHaveThreeShapes := by
  unfold Obligations.LegalDescriptorsHaveThreeShapes
  intro c
  rw [legalDesc_iff, ctrlKind_eq_bitplane4_iff, ctrlKind_eq_font1bit_iff]
  rfl

end Sys2Proof.Machine
end

section
/-! SUPPORT. What each command leaves unchanged: the next state is the old one but for the fields of the command's row of
30_encoding.md R103 and the completion status. -/

namespace Sys2Proof.Machine

/-- s with the completion status of t (60_exceptions.md R302, R303). -/
@[simp] def State.withStatusOf (s t : State) : State :=
  { s with errCode := t.errCode, err := t.err, done := t.done, busy := t.busy }

section
variable {s t : State}

theorem execNop_frame (ht : execNop s = .next t) : t = s.withStatusOf t := by
  cases ht; rfl

theorem execDeint_frame (ht : execDeint s = .next t) :
    t = State.withStatusOf { s with doutLo := t.doutLo, doutHi := t.doutHi } t := by
  cases ht; rfl

theorem execUnpack_frame (ht : execUnpack s = .next t) :
    t = State.withStatusOf { s with doutLo := t.doutLo, doutHi := t.doutHi } t := by
  cases ht; rfl

theorem execSelfmt_frame {fid : FormatId} (ht : execSelfmt fid s = .next t) :
    t = State.withStatusOf { s with
      fmtValid := t.fmtValid, fmtId := t.fmtId, fmtGeom := t.fmtGeom, fmtCtrl := t.fmtCtrl } t := by
  rcases execSelfmt_cases fid s with ⟨e, _, h⟩ | ⟨_, _, _, h⟩ <;> rw [h] at ht <;> cases ht <;> rfl

theorem execLdbank_frame (ht : execLdbank s = .next t) :
    t = State.withStatusOf { s with bankLen := t.bankLen, pbank := t.pbank } t := by
  rcases execLdbank_cases s with ⟨e, _, h⟩ | ⟨_, _, _, h⟩ <;> rw [h] at ht
  · cases ht; rfl
  · obtain ⟨⟨⟩, _⟩ := State.withInput_next ht; rfl

theorem execLdpal_frame (ht : execLdpal s = .next t) :
    t = State.withStatusOf { s with pal := t.pal, palSrc := t.palSrc } t := by
  rcases execLdpal_cases s with ⟨e, _, h⟩ | ⟨_, _, h⟩ <;> rw [h] at ht
  · cases ht; rfl
  · obtain ⟨⟨⟩, _⟩ := State.withInput_next ht; rfl

theorem State.attachAndComplete_frame (ht : s.attachAndComplete = .next t) :
    t = State.withStatusOf { s with pal := t.pal, palSrc := t.palSrc } t := by
  rcases State.attachAndComplete_cases s with ⟨rule, _, h⟩ | ⟨_, h⟩ <;> rw [h] at ht <;> cases ht
  rw [State.attachPalette_eq]; rfl

theorem execResolve_frame (ht : execResolve s = .next t) :
    t = State.withStatusOf { s with pal := t.pal, palSrc := t.palSrc } t := by
  rcases execResolve_cases s with ⟨_, h⟩ | ⟨_, h⟩ <;> rw [h] at ht
  · cases ht; rfl
  · exact State.attachAndComplete_frame ht

/-- A DECODE also writes memory: nothing, or its pixels at the start of OBUF. -/
theorem execDecode_frame (ht : execDecode s = .next t) :
    t = State.withStatusOf { s with pal := t.pal, palSrc := t.palSrc, outLen := t.outLen, mem := t.mem } t ∧
      (t.mem = s.mem ∨ t.mem = s.mem.store obufBase s.decodedPixels) := by
  rcases execDecode_cases s with ⟨e, _, h⟩ | ⟨_, _, _, ⟨_, h⟩ | ⟨_, h⟩⟩ <;> rw [h] at ht
  · cases ht; exact ⟨rfl, .inl rfl⟩
  · obtain ⟨hattach, _⟩ := State.withInput_next ht
    have hframe := State.attachAndComplete_frame hattach
    rw [hframe]
    exact ⟨rfl, .inr rfl⟩
  · obtain ⟨⟨⟩, _⟩ := State.withInput_next ht
    exact ⟨rfl, .inr rfl⟩

/-- The bytes a DECODE may write are the W * H first of OBUF (44_dispatch.md R230). -/
theorem execDecode_read_outside (ht : execDecode s = .next t) {a : Nat}
    (ha : ¬ (obufBase ≤ a ∧ a < obufBase + s.fmtW * s.fmtH)) : t.mem.read a = s.mem.read a := by
  obtain ⟨_, hmem | hmem⟩ := execDecode_frame ht <;> rw [hmem]
  exact Memory.read_store_outside _ (by rwa [State.decodedPixels_length])

end

/-- Settles O40, by the frame of each command. -/
theorem commandsWriteOnlyTheirColumn : Obligations.CommandsWriteOnlyTheirColumn := by
  unfold Obligations.CommandsWriteOnlyTheirColumn
  intro i s t ht
  cases i with
  | nop => rw [execNop_frame ht]; simp
  | selfmt fid => rw [execSelfmt_frame ht]; simp
  | ldbank => rw [execLdbank_frame ht]; simp
  | ldpal => rw [execLdpal_frame ht]; simp
  | resolve => rw [execResolve_frame ht]; simp
  | deint => rw [execDeint_frame ht]; simp
  | unpack => rw [execUnpack_frame ht]; simp
  | decode =>
    have hout : ∀ a, ¬ (obufBase ≤ a ∧ a < obufBase + s.fmtW * s.fmtH) → t.mem.read a = s.mem.read a :=
      fun _ ha => execDecode_read_outside ht ha
    obtain ⟨hframe, _⟩ := execDecode_frame ht
    refine ⟨?_, ?_, ?_, ?_, ?_, ?_, hout⟩ <;> rw [hframe] <;> simp

end Sys2Proof.Machine
end

section
/-! SUPPORT. The palette table (40_palette_table.md): what the loads LDPAL and LDBANK do in each of their cases, on which
bytes of memory they depend, the levels of a parsed block, and the PALX window. -/

namespace Sys2Proof.Machine

/-! The channels of a parsed block (R130, R133, R135). -/

/-- Settles O30, by the entry of the parse and the channel of a source byte. -/
theorem parsedBlockHasRawLevels : Obligations.ParsedBlockHasRawLevels := by
  unfold Obligations.ParsedBlockHasRawLevels
  intro M base i
  have hentry : (parseBlock M base)[i] =
      buildColor (M (base + 4 * i)) (M (base + 4 * i + 1)) (M (base + 4 * i + 2)) := parseBlock_getElem M base i i.isLt
  obtain ⟨hr, hg, hb⟩ := rawPalette_parseBlock M base i
  refine ⟨?_, ?_, ?_, ?_⟩
  · rw [hentry]; exact nib8_toNat _
  · rw [hentry]; exact nib8_toNat _
  · rw [hentry]; exact nib8_toNat _
  · simp only [List.forall_mem_cons]
    exact ⟨hr, hg, hb, List.forall_mem_nil _⟩

/-! The PALX window (R145, R147, 20_memory.md R77). -/

theorem regionOf_palx {p : Params} {a : Nat} (h : 0x400 ≤ a) (h' : a < 0x800) :
    regionOf p a = .palx ((a - 0x400) / 4) := by
  unfold regionOf
  rw [if_neg (by omega), if_pos ⟨h, h'⟩]

/-- A word of the window is the lookup port's, entry 15 of PAL from word 15 up. -/
theorem hostRead_palx {s : State} (hidle : s.busy = false) {k : Nat} (hk : k < 256) :
    hostRead .word (BitVec.ofNat 24 (0x400 + 4 * k)) s = .next { s with busData := some (palx s.pal k) } := by
  have haddr : (BitVec.ofNat 24 (0x400 + 4 * k)).toNat = 0x400 + 4 * k := by
    rw [BitVec.toNat_ofNat]
    omega
  have hwindow : ∀ b < 4, mappedByte s.params (0x400 + 4 * k + b) := by
    intro b hb
    unfold mappedByte
    omega
  have hregion : regionOf s.params (0x400 + 4 * k) = .palx k := by
    rw [regionOf_palx (by omega) (by omega)]
    congr 1
    omega
  have hok := busOk_word hwindow (by omega)
  rw [← haddr] at hok hregion
  rw [hostRead_idle hidle hok, hregion]
  rfl

/-- Settles O57, by the lookup port. -/
theorem palxWindowShowsThePalette : Obligations.PalxWindowShowsThePalette := by
  unfold Obligations.PalxWindowShowsThePalette
  exact fun s k hidle hk => hostRead_palx hidle hk

/-! What the loads parse: the bytes of IBUF at the offsets of their blocks, and no others (R133). -/

theorem forall_mem_blockOffsets_zero {P : Nat → Prop} (h : ∀ i c, i < 16 → c < 3 → P (4 * i + c)) :
    ∀ a ∈ blockOffsets 0, P a := by
  intro a ha
  obtain ⟨i, c, hi, hc, rfl⟩ := mem_blockOffsets.mp ha
  rw [Nat.zero_add]
  exact h i c hi hc

theorem forall_mem_bankOffsets {m : Nat} {P : Nat → Prop}
    (h : ∀ j i c, j < m → i < 16 → c < 3 → P (64 * j + 4 * i + c)) : ∀ a ∈ bankOffsets m, P a := by
  intro a ha
  obtain ⟨j, i, c, hj, hi, hc, rfl⟩ := mem_bankOffsets.mp ha
  exact h j i c hj hi hc

theorem mem_bankOffsets_of_mem_blockOffsets {m j a : Nat} (hj : j < m) (ha : a ∈ blockOffsets (64 * j)) :
    a ∈ bankOffsets m :=
  List.mem_flatMap.mpr ⟨j, List.mem_range.mpr hj, ha⟩

theorem isSome_of_forall_read_eq {m : Memory} {offsets : List Nat} {M : Nat → Byte}
    (h : ∀ a ∈ offsets, m.read (ibufBase + a) = some (M a)) : ∀ a ∈ offsets, (m.read (ibufBase + a)).isSome = true :=
  fun a ha => by rw [h a ha]; rfl

/-- A block of written bytes parses as those bytes, whatever the free values. -/
theorem State.parseBlock_ibuf_of_read {s : State} {M : Nat → Byte} {base : Nat}
    (h : ∀ a ∈ blockOffsets base, s.mem.read (ibufBase + a) = some (M a)) : parseBlock s.ibuf base = parseBlock M base :=
  parseBlock_congr fun a ha => State.ibuf_of_read (h a ha)

/-- Slots below m hold the blocks of the written bytes, the others what they held (R140). -/
theorem State.loadedBank_of_read {s : State} {M : Nat → Byte} {m : Nat}
    (h : ∀ a ∈ bankOffsets m, s.mem.read (ibufBase + a) = some (M a)) (j : Fin 16) :
    (s.loadedBank m)[j] = if j.val < m then some (parseBlock M (64 * j)) else s.pbank[j] := by
  rw [Fin.getElem_fin, State.loadedBank_getElem]
  split
  next hj => rw [State.parseBlock_ibuf_of_read fun a ha => h a (mem_bankOffsets_of_mem_blockOffsets hj ha)]
  next => rfl

/-! LDPAL, case by case (R142). -/

theorem execLdpal_of_overlong {s : State} (h : s.params.ibufSize < s.inputLength) :
    execLdpal s = .next (s.raise .capacity) := if_pos h

theorem execLdpal_of_not_one_block {s : State} (h : s.inputLength ≤ s.params.ibufSize) (h64 : s.inputLength ≠ 64) :
    execLdpal s = .next (s.raise .formatLength) := by
  unfold execLdpal
  exact (if_neg (Nat.not_lt.mpr h)).trans (if_pos h64)

theorem execLdpal_of_one_block {s : State} (h : s.inputLength ≤ s.params.ibufSize) (h64 : s.inputLength = 64) :
    execLdpal s = s.withInput (blockOffsets 0)
      (.next (State.complete { s with pal := parseBlock s.ibuf 0, palSrc := .direct })) := by
  unfold execLdpal
  exact (if_neg (Nat.not_lt.mpr h)).trans (if_neg (not_not.mpr h64))

/-- Settles O19, by the three cases of the length. -/
theorem ldpalLoadsOrReports : Obligations.LdpalLoadsOrReports := by
  unfold Obligations.LdpalLoadsOrReports
  refine fun s M => ⟨fun hfits h64 hread => ?_, execLdpal_of_overlong, execLdpal_of_not_one_block⟩
  have hblock : ∀ a ∈ blockOffsets 0, s.mem.read (ibufBase + a) = some (M a) :=
    forall_mem_blockOffsets_zero hread
  calc exec .ldpal s
      = s.withInput (blockOffsets 0)
          (.next (State.complete { s with pal := parseBlock s.ibuf 0, palSrc := .direct })) :=
        execLdpal_of_one_block (h64.trans_le hfits) h64
    _ = .next (State.complete { s with pal := parseBlock s.ibuf 0, palSrc := .direct }) :=
        State.withInput_written (isSome_of_forall_read_eq hblock) _
    _ = .next (State.complete { s with pal := parseBlock M 0, palSrc := .direct }) := by
        rw [State.parseBlock_ibuf_of_read hblock]

/-! LDBANK, case by case (R140). -/

theorem execLdbank_of_overlong {s : State} (h : s.params.ibufSize < s.inputLength) :
    execLdbank s = .next (s.raiseNoBank .capacity) := if_pos h

theorem execLdbank_of_not_blocks {s : State} (h : s.inputLength ≤ s.params.ibufSize) (h64 : s.inputLength % 64 ≠ 0) :
    execLdbank s = .next (s.raiseNoBank .formatBankLen) := by
  unfold execLdbank
  exact (if_neg (Nat.not_lt.mpr h)).trans (if_pos h64)

theorem execLdbank_of_too_many_blocks {s : State} (h : s.inputLength ≤ s.params.ibufSize) (h64 : s.inputLength % 64 = 0)
    (hmax : s.params.bankMax < s.inputLength / 64) : execLdbank s = .next (s.raiseNoBank .capacity) := by
  unfold execLdbank
  exact (if_neg (Nat.not_lt.mpr h)).trans ((if_neg (not_not.mpr h64)).trans (if_pos hmax))

theorem execLdbank_of_blocks {s : State} (h : s.inputLength ≤ s.params.ibufSize) (h64 : s.inputLength % 64 = 0)
    (hmax : s.inputLength / 64 ≤ s.params.bankMax) :
    execLdbank s = s.withInput (bankOffsets (s.inputLength / 64)) (.next (State.complete { s with
      pbank := s.loadedBank (s.inputLength / 64), bankLen := BitVec.ofNat 32 (s.inputLength / 64) })) := by
  unfold execLdbank
  exact (if_neg (Nat.not_lt.mpr h)).trans ((if_neg (not_not.mpr h64)).trans (if_neg (Nat.not_lt.mpr hmax)))

/-- Settles O18, by the four cases of the length. -/
theorem ldbankLoadsOrReports : Obligations.LdbankLoadsOrReports := by
  unfold Obligations.LdbankLoadsOrReports
  refine fun s M => ⟨fun hfits h64 hmax hread => ?_, execLdbank_of_overlong, execLdbank_of_not_blocks,
    execLdbank_of_too_many_blocks⟩
  have hblocks : ∀ a ∈ bankOffsets (s.inputLength / 64), s.mem.read (ibufBase + a) = some (M a) :=
    forall_mem_bankOffsets hread
  exact ⟨s.loadedBank (s.inputLength / 64),
    (execLdbank_of_blocks hfits h64 hmax).trans (State.withInput_written (isSome_of_forall_read_eq hblocks) _),
    State.loadedBank_of_read hblocks⟩

/-! The loads on another memory that holds the same bytes at the offsets they parse (R133): they do the same, and keep that
memory. -/

/-- s with the memory m. -/
def State.withMemory (m : Memory) (s : State) : State := { s with mem := m }

section
variable {s : State} {m : Memory}

theorem State.withInput_withMemory {offsets : List Nat}
    (h : ∀ a ∈ offsets, m.read (ibufBase + a) = s.mem.read (ibufBase + a)) (o : Host.Outcome State Fault Refusal) :
    (s.withMemory m).withInput offsets (mapNext (State.withMemory m) o) =
      mapNext (State.withMemory m) (s.withInput offsets o) := by
  have hfirst : (s.withMemory m).firstUnwritten offsets = s.firstUnwritten offsets := State.firstUnwritten_congr h
  unfold State.withInput
  rw [hfirst]
  cases s.firstUnwritten offsets <;> rfl

theorem State.parseBlock_withMemory {base : Nat}
    (h : ∀ a ∈ blockOffsets base, m.read (ibufBase + a) = s.mem.read (ibufBase + a)) :
    parseBlock (s.withMemory m).ibuf base = parseBlock s.ibuf base :=
  parseBlock_congr fun a ha => State.ibuf_congr rfl (h a ha)

theorem State.loadedBank_withMemory {k : Nat}
    (h : ∀ a ∈ bankOffsets k, m.read (ibufBase + a) = s.mem.read (ibufBase + a)) :
    (s.withMemory m).loadedBank k = s.loadedBank k := by
  apply Vector.ext
  intro j hj
  rw [State.loadedBank_getElem, State.loadedBank_getElem]
  split
  next hjk => rw [State.parseBlock_withMemory fun a ha => h a (mem_bankOffsets_of_mem_blockOffsets hjk ha)]
  next => rfl

theorem execLdpal_withMemory (h : ∀ a ∈ blockOffsets 0, m.read (ibufBase + a) = s.mem.read (ibufBase + a)) :
    execLdpal (s.withMemory m) = mapNext (State.withMemory m) (execLdpal s) := by
  unfold execLdpal
  simp only [apply_ite (mapNext (State.withMemory m)), ← State.withInput_withMemory h, State.parseBlock_withMemory h]
  rfl

theorem execLdbank_withMemory
    (h : ∀ a ∈ bankOffsets (s.inputLength / 64), m.read (ibufBase + a) = s.mem.read (ibufBase + a)) :
    execLdbank (s.withMemory m) = mapNext (State.withMemory m) (execLdbank s) := by
  have hlen : (s.withMemory m).inputLength = s.inputLength := rfl
  unfold execLdbank
  simp only [hlen, apply_ite (mapNext (State.withMemory m)), ← State.withInput_withMemory h,
    State.loadedBank_withMemory h]
  rfl

end

/-- Settles O26, from the law of each load on another memory. -/
theorem paletteLoadsIgnoreTheFourthByte : Obligations.PaletteLoadsIgnoreTheFourthByte := by
  unfold Obligations.PaletteLoadsIgnoreTheFourthByte
  refine fun s t m => ⟨fun hagree ht => ?_, fun hagree ht => ?_⟩
  · have hblock : ∀ a ∈ blockOffsets 0, m.read (ibufBase + a) = s.mem.read (ibufBase + a) :=
      forall_mem_blockOffsets_zero hagree
    exact (execLdpal_withMemory hblock).trans (congrArg (mapNext (State.withMemory m)) ht)
  · have hblocks : ∀ a ∈ bankOffsets (s.inputLength / 64), m.read (ibufBase + a) = s.mem.read (ibufBase + a) :=
      forall_mem_bankOffsets hagree
    exact (execLdbank_withMemory hblocks).trans (congrArg (mapNext (State.withMemory m)) ht)

end Sys2Proof.Machine
end

section
/-! SUPPORT. The palette resolver (41_palette_resolver.md): the RGB words of the grey ramp, the rule of a format by its PRULE
field, what RESOLVE does with each rule, and which rules a bitplane4 format has. -/

namespace Sys2Proof.Machine

/-! The grey ramp as RGB words (R161, 00_scope.md R14). -/

theorem rgb_toNat (c : Color) : (rgb c).toNat = 65536 * c.r.toNat + 256 * c.g.toNat + c.b.toNat := by
  unfold rgb
  rw [BitVec.toNat_append, BitVec.toNat_append, BitVec.toNat_append, ← Nat.shiftLeft_add_eq_or_of_lt c.b.isLt,
    ← Nat.shiftLeft_add_eq_or_of_lt c.g.isLt, ← Nat.shiftLeft_add_eq_or_of_lt c.r.isLt]
  simp only [Nat.shiftLeft_eq, BitVec.ofNat_eq_ofNat, BitVec.toNat_ofNat]
  omega

/-- The lookup port shows an entry below 16 as its RGB word (40_palette_table.md R145). -/
theorem palx_of_lt (p : Palette) {k : Nat} (h : k < 16) : palx p k = rgb p[k] := by
  have hmin : min k 15 = k := Nat.min_eq_left (Nat.le_of_lt_succ h)
  simp only [palx, hmin]

/-- Settles O31: the three channels of entry i, 17 * i each, at their places in the word. -/
theorem greyRampWords : Obligations.GreyRampWords := by
  unfold Obligations.GreyRampWords
  intro i
  refine ⟨gray_getElem i i.isLt, ?_⟩
  have hchannel : 17 * i.val % 2 ^ 8 = 17 * i.val := Nat.mod_eq_of_lt (by omega)
  have hword : i.val * 0x00111111 % 2 ^ 32 = i.val * 0x00111111 := Nat.mod_eq_of_lt (by omega)
  apply BitVec.eq_of_toNat_eq
  rw [palx_of_lt gray i.isLt, gray_getElem i i.isLt, rgb_toNat]
  simp only [BitVec.toNat_ofNat, hchannel, hword]
  omega

/-! The rule of a format, by its PRULE and PARG fields (R160, 30_encoding.md R112). -/

section
variable {c : CtrlBits}

theorem paletteRule_of_none (hp : ctrlPrule c = 0) : paletteRule c = some .noPalette := by
  unfold paletteRule
  rw [hp]
  rfl

theorem paletteRule_of_builtin {k : Fin 3} (hp : ctrlPrule c = 1) (hk : (ctrlParg c).toNat = k) :
    paletteRule c = some (.fixedBuiltin k) := by
  have hlt : (ctrlParg c).toNat < 3 := hk.trans_lt k.isLt
  have hfin : (⟨(ctrlParg c).toNat, hlt⟩ : Fin 3) = k := Fin.ext hk
  unfold paletteRule
  rw [hp]
  exact (dif_pos hlt).trans (by rw [hfin])

theorem paletteRule_of_bank (hp : ctrlPrule c = 2) : paletteRule c = some (.bankIndex (ctrlParg c)) := by
  unfold paletteRule
  rw [hp]
  rfl

end

/-! What RESOLVE does with a selected format, rule by rule (R162, R164, R165). -/

section
variable {s : State}

theorem execResolve_of_noFormat (hv : s.fmtValid = false) : execResolve s = .next (s.raise .noFormat) := if_pos hv

theorem execResolve_of_rule {rule : PaletteRule} (hv : s.fmtValid = true) (hrule : paletteRule s.fmtCtrl = some rule) :
    execResolve s = .next (s.attachPalette rule).complete := by
  have hvalid : ¬ s.fmtValid = false := by simp [hv]
  have hattach : s.attachAndComplete = .next (s.attachPalette rule).complete := by
    unfold State.attachAndComplete State.fmtRule
    rw [hrule]
  exact (if_neg hvalid).trans hattach

/-- The rule resolves to a palette: PAL is that palette and PAL_SRC its source (R164). -/
theorem execResolve_of_palette {rule : PaletteRule} {p : Palette} {src : PalSrc} (hv : s.fmtValid = true)
    (hrule : paletteRule s.fmtCtrl = some rule) (hres : s.resolvePal rule = some (p, src)) :
    execResolve s = .next (State.complete { s with pal := p, palSrc := src }) := by
  rw [execResolve_of_rule hv hrule, State.attachPalette, hres]

theorem execResolve_of_builtin {k : Fin 3} (hv : s.fmtValid = true) (hp : ctrlPrule s.fmtCtrl = 1)
    (hk : (ctrlParg s.fmtCtrl).toNat = k) :
    execResolve s = .next (State.complete { s with
      pal := parseBlock (fun a => Config.builtinRom (64 * k + a)) 0, palSrc := .builtin }) := by
  rw [← State.parse_brom s k]
  exact execResolve_of_palette hv (paletteRule_of_builtin hp hk) rfl

theorem execResolve_of_loadedSlot (hv : s.fmtValid = true) (hp : ctrlPrule s.fmtCtrl = 2)
    (hi : (ctrlParg s.fmtCtrl).toNat < s.bankLength) :
    execResolve s = .next (State.complete { s with
      pal := s.bankSlot (ctrlParg s.fmtCtrl).toNat, palSrc := .bank }) :=
  execResolve_of_palette hv (paletteRule_of_bank hp) (if_pos hi)

theorem execResolve_of_missingSlot (hv : s.fmtValid = true) (hp : ctrlPrule s.fmtCtrl = 2)
    (hi : s.bankLength ≤ (ctrlParg s.fmtCtrl).toNat) :
    execResolve s = .next (State.complete { s with pal := gray, palSrc := .gray }) :=
  execResolve_of_palette hv (paletteRule_of_bank hp) (if_neg (Nat.not_lt.mpr hi))

/-- The rule None keeps PAL (R164). -/
theorem execResolve_of_noPalette (hv : s.fmtValid = true) (hp : ctrlPrule s.fmtCtrl = 0) :
    execResolve s = .next (State.complete { s with palSrc := .noPalette }) :=
  execResolve_of_rule hv (paletteRule_of_none hp)

end

/-- Settles O20, by the rule of the selected format. -/
theorem resolveSelectsThePalette : Obligations.ResolveSelectsThePalette := by
  unfold Obligations.ResolveSelectsThePalette
  refine fun s => ⟨execResolve_of_noFormat, fun hv => ⟨fun k hp hk => ?builtin, fun p hp hi hslot => ?loadedSlot,
    execResolve_of_missingSlot hv, execResolve_of_noPalette hv⟩⟩
  case builtin =>
    have harg : (ctrlParg s.fmtCtrl).toNat = k := by
      rw [ctrlParg, hk, BitVec.toNat_ofNat]
      omega
    exact execResolve_of_builtin hv hp harg
  case loadedSlot =>
    obtain ⟨hlt, hentry⟩ := Vector.getElem?_eq_some_iff.mp hslot
    have hread : s.bankSlot (ctrlParg s.fmtCtrl).toNat = p := State.bankSlot_of_some hlt hentry
    exact hread ▸ execResolve_of_loadedSlot hv hp hi

/-! After a successful RESOLVE on a bitplane4 format (R166). -/

/-- A legal bitplane4 format has a built-in or a bank palette (30_encoding.md R115). -/
theorem prule_of_legal_bitplane4 {c : CtrlBits} (hlegal : legalDesc c = true) (hkind : ctrlKind c = .bitplane4) :
    (ctrlPrule c = 1 ∧ (ctrlParg c).toNat < 3) ∨ ctrlPrule c = 2 := by
  obtain ⟨_, _, _, ⟨_, hp, ha⟩ | ⟨_, hp⟩ | ⟨hfont, _⟩⟩ := (legalDesc_iff c).mp hlegal
  · exact .inl ⟨hp, Nat.lt_succ_of_le ha⟩
  · exact .inr hp
  · rw [hkind] at hfont
    cases hfont

theorem fmtValid_of_execResolve {s t : State} (ht : execResolve s = .next t) (herr : t.err = false) :
    s.fmtValid = true := by
  rcases execResolve_cases s with ⟨_, hx⟩ | ⟨hv, _⟩
  · rw [hx] at ht
    cases ht
    simp at herr
  · exact hv

/-- PAL_SRC after RESOLVE on a legal bitplane4 format tells the rule, and for a bank palette whether the slot was loaded. -/
theorem execResolve_bitplane4_palSrc {s t : State} (hv : s.fmtValid = true) (hlegal : legalDesc s.fmtCtrl = true)
    (hkind : ctrlKind s.fmtCtrl = .bitplane4) (ht : execResolve s = .next t) :
    (t.palSrc = .builtin ∧ ctrlPrule s.fmtCtrl = 1) ∨
      (t.palSrc = .bank ∧ ctrlPrule s.fmtCtrl = 2 ∧ (ctrlParg s.fmtCtrl).toNat < s.bankLength) ∨
      (t.palSrc = .gray ∧ ctrlPrule s.fmtCtrl = 2 ∧ s.bankLength ≤ (ctrlParg s.fmtCtrl).toNat) := by
  rcases prule_of_legal_bitplane4 hlegal hkind with ⟨hp, ha⟩ | hp
  · rw [execResolve_of_builtin (k := ⟨_, ha⟩) hv hp rfl] at ht
    cases ht
    exact .inl ⟨rfl, hp⟩
  rcases Nat.lt_or_ge (ctrlParg s.fmtCtrl).toNat s.bankLength with hi | hi
  · rw [execResolve_of_loadedSlot hv hp hi] at ht
    cases ht
    exact .inr (.inl ⟨rfl, hp, hi⟩)
  · rw [execResolve_of_missingSlot hv hp hi] at ht
    cases ht
    exact .inr (.inr ⟨rfl, hp, hi⟩)

/-- Settles O32: PAL_SRC by the rule of the format, and the levels because RESOLVE keeps PAL_SRC true of PAL. -/
theorem resolvedPaletteLaw : Obligations.ResolvedPaletteLaw := by
  unfold Obligations.ResolvedPaletteLaw
  intro s t hinv hpal ht herr hbit
  have hv : s.fmtValid = true := fmtValid_of_execResolve ht herr
  have hkind : ctrlKind s.fmtCtrl = .bitplane4 := (ctrlKind_eq_bitplane4_iff _).mpr hbit
  have hsrc := execResolve_bitplane4_palSrc hv (hinv.fmtLegal hv) hkind ht
  refine ⟨?source, ?grey, fun hne i => ?levels⟩
  case source =>
    rcases hsrc with ⟨h, _⟩ | ⟨h, _⟩ | ⟨h, _⟩
    · exact .inl h
    · exact .inr (.inl h)
    · exact .inr (.inr h)
  case grey =>
    change t.palSrc = .gray ↔ ctrlPrule s.fmtCtrl = 2 ∧ s.bankLength ≤ (ctrlParg s.fmtCtrl).toNat
    rcases hsrc with ⟨h, hp⟩ | ⟨h, _, hi⟩ | ⟨h, hp, hi⟩
    · simp [h, hp]
    · simp [h, hi]
    · simp [h, hp, hi]
  case levels =>
    have hraw : rawPalette t.pal := by
      apply (hpal.execResolve_next hinv ht).raw
      rcases hsrc with ⟨h, _⟩ | ⟨h, _⟩ | ⟨h, _⟩
      · exact .inl h
      · exact .inr (.inl h)
      · exact absurd h hne
    obtain ⟨hr, hg, hb⟩ := hraw i
    simp only [List.forall_mem_cons]
    exact ⟨hr, hg, hb, List.forall_mem_nil _⟩

end Sys2Proof.Machine
end

section
/-! SUPPORT. The pixels of the two decoders (42_bitplane.md, 43_glyph.md): the nibbles DEINT packs, where each pixel of a
decode stands, and which bytes a decode depends on. -/

namespace Sys2Proof.Machine

/-! The nibbles of DOUT_LO (R183, R188). -/

/-- Lane j of packed lanes is the j-th of them. -/
theorem packLanes_lane {w : Nat} {ls : List Word} (hl : ∀ l ∈ ls, l.toNat < 2 ^ w) {j : Nat} (hj : w * j + w ≤ 32) :
    (packLanes w ls).extractLsb' (w * j) w = ((ls[j]?).getD 0).setWidth w := by
  apply BitVec.eq_of_getLsbD_eq
  intro i hi
  have hw : 0 < w := by omega
  have hdiv : (w * j + i) / w = j := by rw [Nat.mul_add_div hw, Nat.div_eq_of_lt hi, Nat.add_zero]
  have hmod : (w * j + i) % w = i := by rw [Nat.mul_add_mod, Nat.mod_eq_of_lt hi]
  rw [BitVec.getLsbD_extractLsb', packLanes_getLsbD hw ls hl _ (by omega), hdiv, hmod, BitVec.getLsbD_setWidth]

section
variable (b0 b1 b2 b3 : Byte) (x : Nat)

/-- The four plane bits of column x, intensity first (R183). -/
def planeNibble : BitVec 4 :=
  BitVec.ofBool (b3.getLsbD (7 - x % 8)) ++ BitVec.ofBool (b2.getLsbD (7 - x % 8))
    ++ BitVec.ofBool (b1.getLsbD (7 - x % 8)) ++ BitVec.ofBool (b0.getLsbD (7 - x % 8))

theorem deintPix_eq_planeNibble : deintPix b0 b1 b2 b3 x = (planeNibble b0 b1 b2 b3 x).setWidth 8 := by
  rw [deintPix_eq, planeNibble]
  generalize b0.getLsbD (7 - x % 8) = p0
  generalize b1.getLsbD (7 - x % 8) = p1
  generalize b2.getLsbD (7 - x % 8) = p2
  generalize b3.getLsbD (7 - x % 8) = p3
  revert p0 p1 p2 p3
  decide

/-- A bitplane pixel is a palette index (R187). -/
theorem deintPix_toNat_le : (deintPix b0 b1 b2 b3 x).toNat ≤ 15 := by
  have hnibble := (planeNibble b0 b1 b2 b3 x).isLt
  rw [deintPix_eq_planeNibble, BitVec.toNat_setWidth]
  omega

/-- Nibble j of what DEINT writes holds the plane bits of column j (R188). -/
theorem deintWord_nibble {j : Nat} (hj : j < 8) :
    (deintWord b0 b1 b2 b3).extractLsb' (4 * j) 4 = planeNibble b0 b1 b2 b3 j := by
  have hlane : ∀ l ∈ (List.range 8).map fun k => (deintPix b0 b1 b2 b3 k).setWidth 32, l.toNat < 2 ^ 4 := by
    intro l hl
    obtain ⟨k, _, rfl⟩ := List.mem_map.mp hl
    have hpix := deintPix_toNat_le b0 b1 b2 b3 k
    rw [BitVec.toNat_setWidth]
    omega
  rw [deintWord, packLanes_lane hlane (by omega), List.getElem?_map, List.getElem?_range hj]
  change ((deintPix b0 b1 b2 b3 j).setWidth 32).setWidth 4 = _
  rw [deintPix_eq_planeNibble, BitVec.setWidth_setWidth_of_le _ (by decide), BitVec.setWidth_setWidth_of_le _ (by decide),
    BitVec.setWidth_eq]

end

/-- Settles O12: nibble j holds the plane bits of column j of the bytes of DIN. -/
theorem deintFillsEightNibbles : Obligations.DeintFillsEightNibbles := by
  unfold Obligations.DeintFillsEightNibbles
  refine fun s => ⟨_, rfl, fun j hj => ?_⟩
  have hbit : ∀ p, (s.dinByte p).getLsbD (7 - j) = s.din.getLsbD (8 * p + (7 - j)) := fun p => by
    simp only [State.dinByte, BitVec.getLsbD_extractLsb', show 7 - j < 8 by omega, decide_true, Bool.true_and]
  rw [deintWord_nibble _ _ _ _ hj, planeNibble, Nat.mod_eq_of_lt hj]
  simp only [hbit, Nat.mul_zero, Nat.zero_add, Nat.mul_one, Nat.reduceMul]

/-- In an image of one group the byte of plane p stands at offset p (R182). -/
theorem planeAddr_oneGroup (p : Nat) {j : Nat} (hj : j < 8) : planeAddr 8 p j 0 = p := by
  simp [planeAddr, Nat.div_eq_of_lt hj]

/-- Settles O14: both sides are the pixel in column j of the four bytes of DIN. -/
theorem deintIsTheDecodeOfOneGroup : Obligations.DeintIsTheDecodeOfOneGroup := by
  unfold Obligations.DeintIsTheDecodeOfOneGroup
  intro s t ht j hj
  cases ht
  have hpixel : bpPixel s.dinByte 8 (j % 8) (j / 8) =
      deintPix (s.dinByte 0) (s.dinByte 1) (s.dinByte 2) (s.dinByte 3) j := by
    rw [bpPixel, Nat.mod_eq_of_lt hj, Nat.div_eq_of_lt hj]
    simp only [planeAddr_oneGroup _ hj]
  change (bpDecode s.dinByte 8 1)[j]? = some
    (((deintWord (s.dinByte 0) (s.dinByte 1) (s.dinByte 2) (s.dinByte 3)).extractLsb' (4 * j) 4).setWidth 8)
  rw [bpDecode_getElem? _ _ _ _ hj, hpixel, deintPix_eq_planeNibble, deintWord_nibble _ _ _ _ hj]

/-! The pixels of a decode (R186, 00_scope.md R15). -/

/-- Settles O28: each byte is a bitplane pixel. -/
theorem bitplaneDecodeGivesIndices : Obligations.BitplaneDecodeGivesIndices := by
  unfold Obligations.BitplaneDecodeGivesIndices
  refine fun M W H _ => ⟨bpDecode_length M W H, fun b hb => ?_⟩
  obtain ⟨a, _, rfl⟩ := List.mem_map.mp hb
  exact deintPix_toNat_le _ _ _ _ _

/-- The row-major place of a pixel, and the pixel back from its place (00_scope.md R15). -/
theorem rowMajor_lt_mod_div {W H x y : Nat} (hx : x < W) (hy : y < H) :
    y * W + x < W * H ∧ (y * W + x) % W = x ∧ (y * W + x) / W = y := by
  refine ⟨?_, ?_, ?_⟩
  · calc y * W + x < y * W + W := Nat.add_lt_add_left hx _
      _ = W * (y + 1) := by ring
      _ ≤ W * H := Nat.mul_le_mul_left W hy
  · rw [Nat.mul_comm, Nat.mul_add_mod, Nat.mod_eq_of_lt hx]
  · rw [Nat.mul_comm, Nat.mul_add_div (by omega), Nat.div_eq_of_lt hx, Nat.add_zero]

/-- Every place of a decode is the place of a pixel of the image. -/
theorem column_lt_and_row_lt {W H a : Nat} (ha : a < W * H) : a % W < W ∧ a / W < H :=
  ⟨Nat.mod_lt _ (Nat.pos_of_lt_mul_right ha), Nat.div_lt_of_lt_mul ha⟩

theorem bpDecode_pixel (M : Nat → Byte) {W H x y : Nat} (hx : x < W) (hy : y < H) :
    (bpDecode M W H)[y * W + x]? = some (bpPixel M W x y) := by
  obtain ⟨hplace, hcolumn, hrow⟩ := rowMajor_lt_mod_div hx hy
  rw [bpDecode_getElem? M W H _ hplace, hcolumn, hrow]

/-! The bytes a decode depends on: the first `need` ones (R184, R185, 43_glyph.md R203). -/

section
variable {M N : Nat → Byte} {W H : Nat}

theorem bpDecode_congr (hW : W % 8 = 0) (h : ∀ a, a < needBP W H → N a = M a) : bpDecode N W H = bpDecode M W H := by
  refine List.map_congr_left fun a ha => ?_
  obtain ⟨hx, hy⟩ := column_lt_and_row_lt (List.mem_range.mp ha)
  have hplane : ∀ p, p < 4 → N (planeAddr W p (a % W) (a / W)) = M (planeAddr W p (a % W) (a / W)) :=
    fun p hp => h _ (planeAddr_lt hW hp hx hy)
  rw [bpPixel, hplane 0 (by decide), hplane 1 (by decide), hplane 2 (by decide), hplane 3 (by decide)]
  rfl

theorem glDecode_congr (hW : W % 8 = 0) (h : ∀ a, a < needGL W H → N a = M a) : glDecode N W H = glDecode M W H := by
  refine List.map_congr_left fun a ha => ?_
  obtain ⟨hx, hy⟩ := column_lt_and_row_lt (List.mem_range.mp ha)
  rw [h _ (glyphAddr_lt hW hx hy)]

end

end Sys2Proof.Machine
end

section
/-! SUPPORT. DECODE (44_dispatch.md R230): when it succeeds, and that it then does what attaching the format's palette does,
but for the pixels in OBUF and OUT_LEN. -/

namespace Sys2Proof.Machine

theorem mapNext_eq_next_iff {f : State → State} {o : Host.Outcome State Fault Refusal} {t : State} :
    mapNext f o = .next t ↔ ∃ u, o = .next u ∧ t = f u := by
  cases o <;> simp [mapNext, eq_comm]

/-- s with the memory m and n in OUT_LEN. -/
def State.withOutput (m : Memory) (n : Word) (s : State) : State := { s with mem := m, outLen := n }

/-- The checks of DECODE passed and every byte it reads written (R230, 70_reset_and_hazards.md R402). -/
structure State.DecodeReady (s : State) : Prop where
  valid : s.fmtValid = true
  fits : s.inputLength ≤ s.params.ibufSize
  enough : s.need ≤ s.inputLength
  written : ∀ a, a < s.need → (s.mem.read (ibufBase + a)).isSome = true

/-- What DECODE does with the palette: RESOLVE's for bitplane4, none for font1bit (R230). -/
def State.attachForKind (s : State) : Host.Outcome State Fault Refusal :=
  match s.fmtKind with
  | .bitplane4 => s.attachAndComplete
  | .font1bit => .next (State.complete { s with palSrc := .noPalette })

section
variable {s : State}

theorem State.attachForKind_bitplane4 (h : s.fmtKind = .bitplane4) : s.attachForKind = s.attachAndComplete := by
  rw [State.attachForKind, h]

/-- The palette attached does not depend on memory or OUT_LEN, and attaching it keeps both (41_palette_resolver.md R162). -/
theorem State.attachAndComplete_withOutput (m : Memory) (n : Word) :
    (s.withOutput m n).attachAndComplete = mapNext (State.withOutput m n) s.attachAndComplete := by
  have hrule : (s.withOutput m n).fmtRule = s.fmtRule := rfl
  have hres : ∀ rule, (s.withOutput m n).resolvePal rule = s.resolvePal rule := State.resolvePal_congr rfl rfl rfl
  unfold State.attachAndComplete State.attachPalette
  simp only [hrule, hres]
  cases s.fmtRule with
  | none => rfl
  | some rule => cases hpal : s.resolvePal rule <;> simp only [hpal] <;> rfl

theorem State.attachForKind_withOutput (m : Memory) (n : Word) :
    (s.withOutput m n).attachForKind = mapNext (State.withOutput m n) s.attachForKind := by
  have hkind : (s.withOutput m n).fmtKind = s.fmtKind := rfl
  unfold State.attachForKind
  rw [hkind]
  cases s.fmtKind with
  | bitplane4 => exact State.attachAndComplete_withOutput m n
  | font1bit => rfl

/-- `need` by the KIND bit of the selected format (R231). -/
theorem State.need_eq (s : State) :
    s.need = if s.fmtCtrl.getLsbD 0 then s.fmtW * s.fmtH / 8 else s.fmtW * s.fmtH / 2 := by
  unfold State.need State.fmtKind ctrlKind
  cases s.fmtCtrl.getLsbD 0 <;> rfl

/-- A DECODE that may go on attaches the palette, with its pixels in OBUF and their number in OUT_LEN. -/
theorem execDecode_of_ready (h : s.DecodeReady) : execDecode s =
    mapNext (State.withOutput (s.mem.store obufBase s.decodedPixels) (BitVec.ofNat 32 (s.fmtW * s.fmtH)))
      s.attachForKind := by
  have hvalid : ¬ s.fmtValid = false := by simp [h.valid]
  have hwritten : ∀ a ∈ List.range s.need, (s.mem.read (ibufBase + a)).isSome = true :=
    fun a ha => h.written a (List.mem_range.mp ha)
  rw [← State.attachForKind_withOutput, execDecode, if_neg hvalid, if_neg (Nat.not_lt.mpr h.fits),
    if_neg (Nat.not_lt.mpr h.enough), State.withInput_written hwritten]
  rfl

/-- A DECODE that reports no error was ready. -/
theorem decodeReady_of_execDecode {t : State} (ht : execDecode s = .next t) (herr : t.err = false) : s.DecodeReady := by
  rcases execDecode_cases s with ⟨e, _, h⟩ | ⟨hvalid, hfits, henough, ⟨_, h⟩ | ⟨_, h⟩⟩ <;> rw [h] at ht
  · cases ht
    cases herr
  all_goals
    obtain ⟨_, hwritten⟩ := State.withInput_next ht
    exact ⟨hvalid, hfits, henough, fun a ha => hwritten a (List.mem_range.mpr ha)⟩

/-- Byte a of the pixels at the start of OBUF (20_memory.md R75). -/
theorem State.read_obuf_decodedPixels (m : Memory) {a : Nat} (ha : a < s.fmtW * s.fmtH) :
    (m.store obufBase s.decodedPixels).read (obufBase + a) = s.decodedPixels[a]? := by
  have hlen : a < s.decodedPixels.length := by rwa [State.decodedPixels_length]
  have hrom : bromBase + bromSize ≤ obufBase + a := Nat.le_add_right_of_le (by decide)
  rw [Memory.read_store_inside m hrom (Nat.le_add_right _ _) (Nat.add_lt_add_left hlen _), Nat.add_sub_cancel_left]

/-- The pixels of a bitplane4 format, from the bytes its decode reads. -/
theorem State.decodedPixels_of_read {M : Nat → Byte} (hkind : s.fmtKind = .bitplane4) (hW : s.fmtW % 8 = 0)
    (h : ∀ a, a < needBP s.fmtW s.fmtH → s.mem.read (ibufBase + a) = some (M a)) :
    s.decodedPixels = bpDecode M s.fmtW s.fmtH := by
  rw [State.decodedPixels, hkind]
  exact bpDecode_congr hW fun a ha => State.ibuf_of_read (h a ha)

/-- Settles O21: DECODE does what RESOLVE does but for its output, and its pixels are those of the decode. -/
theorem decodeWritesBitplanePixels : Obligations.DecodeWritesBitplanePixels := by
  unfold Obligations.DecodeWritesBitplanePixels
  rintro s M W H rfl rfl hvalid hlegal hbit hW hfits henough hread
  have hkind : s.fmtKind = .bitplane4 := (ctrlKind_eq_bitplane4_iff _).mpr hbit
  have hneed : s.need = needBP s.fmtW s.fmtH := by rw [State.need, hkind]
  have hready : s.DecodeReady :=
    ⟨hvalid, hfits, hneed.trans_le henough, fun a ha => by rw [hread a (ha.trans_eq hneed)]; rfl⟩
  have hpixels : s.decodedPixels = bpDecode M s.fmtW s.fmtH := State.decodedPixels_of_read hkind hW hread
  obtain ⟨rule, hrule⟩ := paletteRule_of_legal hlegal
  have hresolve : execResolve s = .next (s.attachPalette rule).complete := execResolve_of_rule hvalid hrule
  have hdecode : execDecode s = .next ((s.attachPalette rule).complete.withOutput
      (s.mem.store obufBase s.decodedPixels) (BitVec.ofNat 32 (s.fmtW * s.fmtH))) := by
    rw [execDecode_of_ready hready, State.attachForKind_bitplane4 hkind, State.attachAndComplete, State.fmtRule, hrule]
    rfl
  refine ⟨_, _, hdecode, hresolve, ?frame, fun x y hx hy => ?pixel, fun a ha => execDecode_read_outside hdecode ha⟩
  case frame =>
    rw [State.attachPalette_eq]
    rfl
  case pixel =>
    obtain ⟨hplace, -, -⟩ := rowMajor_lt_mod_div hx hy
    calc (s.mem.store obufBase s.decodedPixels).read (obufBase + (y * s.fmtW + x))
        = s.decodedPixels[y * s.fmtW + x]? := State.read_obuf_decodedPixels s.mem hplace
      _ = some (bpPixel M s.fmtW x y) := by rw [hpixels]; exact bpDecode_pixel M hx hy
      _ = _ := congrArg some (deintPix_eq _ _ _ _ _)

/-! DECODE on another memory that holds the same bytes at the offsets its format needs (R184, 43_glyph.md R203). -/

section
variable {m : Memory} (h : ∀ a, a < s.need → m.read (ibufBase + a) = s.mem.read (ibufBase + a))
include h

theorem State.decodedPixels_withMemory (hW : s.fmtW % 8 = 0) : (s.withMemory m).decodedPixels = s.decodedPixels := by
  have hbyte : ∀ a, a < s.need → (s.withMemory m).ibuf a = s.ibuf a := fun a ha => State.ibuf_congr rfl (h a ha)
  have hkind' : (s.withMemory m).fmtKind = s.fmtKind := rfl
  unfold State.need at hbyte
  unfold State.decodedPixels
  rw [hkind']
  cases hkind : s.fmtKind <;> rw [hkind] at hbyte
  · exact bpDecode_congr hW hbyte
  · exact glDecode_congr hW hbyte

theorem State.DecodeReady.withMemory (hs : s.DecodeReady) : (s.withMemory m).DecodeReady :=
  { hs with written := fun a ha => (congrArg Option.isSome (h a ha)).trans (hs.written a ha) }

end

end

/-- Settles O27: on both memories DECODE attaches the same palette and writes the same pixels. -/
theorem decodeIgnoresBytesPastItsNeed : Obligations.DecodeIgnoresBytesPastItsNeed := by
  unfold Obligations.DecodeIgnoresBytesPastItsNeed
  intro s t m hW hagree ht herr
  have hsame : ∀ a, a < s.need → m.read (ibufBase + a) = s.mem.read (ibufBase + a) :=
    fun a ha => hagree a (s.need_eq ▸ ha)
  have hready : s.DecodeReady := decodeReady_of_execDecode ht herr
  have hpixels : (s.withMemory m).decodedPixels = s.decodedPixels := State.decodedPixels_withMemory hsame hW
  obtain ⟨u, hu, rfl⟩ := mapNext_eq_next_iff.mp ((execDecode_of_ready hready).symm.trans ht)
  have hattach : (s.withMemory m).attachForKind = .next (u.withOutput m s.outLen) :=
    (State.attachForKind_withOutput m s.outLen).trans (congrArg (mapNext _) hu)
  have hdecode : execDecode (s.withMemory m) = .next (u.withOutput (m.store obufBase s.decodedPixels)
      (BitVec.ofNat 32 (s.fmtW * s.fmtH))) := by
    rw [execDecode_of_ready (hready.withMemory hsame), hattach, hpixels]
    rfl
  refine ⟨_, hdecode, rfl, fun a ha => ?_⟩
  exact (State.read_obuf_decodedPixels m ha).trans (State.read_obuf_decodedPixels s.mem ha).symm

end Sys2Proof.Machine
end

section
/-! SUPPORT. The font glyph unpacker (43_glyph.md): the bytes UNPACK packs, where each pixel of a glyph decode stands, and
DECODE of a font1bit format. -/

namespace Sys2Proof.Machine

/-! The pixels of a glyph decode (R202, R204, 00_scope.md R15). -/

theorem glyphPix_eq_zero_or_255 (b : Byte) (x : Nat) : glyphPix b x = 0 ∨ glyphPix b x = 255 :=
  (ite_eq_or_eq _ _ _).symm

theorem glDecode_pixel (M : Nat → Byte) {W H x y : Nat} (hx : x < W) (hy : y < H) :
    (glDecode M W H)[y * W + x]? = some (if (M (y * (W / 8) + x / 8)).getLsbD (7 - x % 8) then 255 else 0) := by
  obtain ⟨hplace, hcolumn, hrow⟩ := rowMajor_lt_mod_div hx hy
  rw [glDecode_getElem? M W H _ hplace, hcolumn, hrow, glyphPix_eq, glyphAddr]

/-- Settles O29: each byte is a glyph pixel, and the pixel of column x and row y stands at y * W + x. -/
theorem glyphDecodeGivesBlackOrWhite : Obligations.GlyphDecodeGivesBlackOrWhite := by
  unfold Obligations.GlyphDecodeGivesBlackOrWhite
  refine fun M W H _ => ⟨glDecode_length M W H, fun b hb => ?_, fun x y hx hy => glDecode_pixel M hx hy⟩
  obtain ⟨a, _, rfl⟩ := List.mem_map.mp hb
  exact glyphPix_eq_zero_or_255 _ _

/-! The bytes of DOUT_LO and DOUT_HI (R205, R206). -/

/-- Byte i of a word of glyph pixels is the pixel in column j + i (R205). -/
theorem glyphWord_byte (b : Byte) (j : Nat) {i : Nat} (hi : i < 4) :
    (glyphWord b j).extractLsb' (8 * i) 8 = glyphPix b (j + i) := by
  have hlane : ∀ l ∈ (List.range 4).map fun k => (glyphPix b (j + k)).setWidth 32, l.toNat < 2 ^ 8 := by
    intro l hl
    obtain ⟨k, _, rfl⟩ := List.mem_map.mp hl
    have hpix := (glyphPix b (j + k)).isLt
    rw [BitVec.toNat_setWidth]
    omega
  rw [glyphWord, packLanes_lane hlane (by omega), List.getElem?_map, List.getElem?_range hi]
  change ((glyphPix b (j + i)).setWidth 32).setWidth 8 = _
  rw [BitVec.setWidth_setWidth_of_le _ (by decide), BitVec.setWidth_eq]

/-- Byte j of DOUT_HI ++ DOUT_LO of UNPACK is the pixel in column j (R206). -/
theorem glyphWords_byte (b : Byte) {j : Nat} (hj : j < 8) :
    (glyphWord b 4 ++ glyphWord b 0).extractLsb' (8 * j) 8 = glyphPix b j := by
  rcases Nat.lt_or_ge j 4 with hlo | hhi
  · rw [BitVec.extractLsb'_append_eq_of_add_le (by omega), glyphWord_byte b 0 hlo, Nat.zero_add]
  · have hplace : 8 * j - 32 = 8 * (j - 4) := by omega
    rw [BitVec.extractLsb'_append_eq_of_le (by omega), hplace, glyphWord_byte b 4 (by omega), Nat.add_sub_cancel' hhi]

/-- The pixel in column j of the glyph byte of DIN, by bit 7 - j of DIN (R202, R205). -/
theorem State.glyphPix_dinByte (s : State) {j : Nat} (hj : j < 8) :
    glyphPix (s.dinByte 0) j = if s.din.getLsbD (7 - j) then 255 else 0 := by
  have hbit : (s.dinByte 0).getLsbD (7 - j) = s.din.getLsbD (7 - j) := by
    simp only [State.dinByte, BitVec.getLsbD_extractLsb', show 7 - j < 8 by omega, decide_true, Bool.true_and,
      Nat.mul_zero, Nat.zero_add]
  rw [glyphPix_eq, Nat.mod_eq_of_lt hj, hbit]

/-- Settles O13: DOUT_LO holds the pixels of columns 0 to 3 of the glyph byte of DIN, DOUT_HI those of columns 4 to 7. -/
theorem unpackFillsEightBytes : Obligations.UnpackFillsEightBytes := by
  unfold Obligations.UnpackFillsEightBytes
  refine fun s => ⟨_, _, rfl, fun j hj => ?low, fun j hge hj => ?high⟩
  case low => rw [glyphWord_byte _ 0 hj, Nat.zero_add, s.glyphPix_dinByte (by omega)]
  case high => rw [glyphWord_byte _ 4 (by omega), Nat.add_sub_cancel' hge, s.glyphPix_dinByte hj]

/-- Settles O15: both sides are the pixel in column j of the glyph byte of DIN. -/
theorem unpackIsTheDecodeOfOneByte : Obligations.UnpackIsTheDecodeOfOneByte := by
  unfold Obligations.UnpackIsTheDecodeOfOneByte
  intro s t ht j hj
  cases ht
  change (glDecode (fun _ => s.dinByte 0) 8 1)[j]? = some
    ((glyphWord (s.dinByte 0) 4 ++ glyphWord (s.dinByte 0) 0).extractLsb' (8 * j) 8)
  rw [glDecode_getElem? _ _ _ _ hj, Nat.mod_eq_of_lt hj, glyphWords_byte _ hj]

/-! DECODE of a font1bit format (R204, 44_dispatch.md R230). -/

section
variable {s : State}

theorem State.attachForKind_font1bit (h : s.fmtKind = .font1bit) :
    s.attachForKind = .next (State.complete { s with palSrc := .noPalette }) := by
  rw [State.attachForKind, h]

/-- The pixels of a font1bit format, from the bytes its decode reads (R203). -/
theorem State.decodedPixels_of_glyphRead {M : Nat → Byte} (hkind : s.fmtKind = .font1bit) (hW : s.fmtW % 8 = 0)
    (h : ∀ a, a < needGL s.fmtW s.fmtH → s.mem.read (ibufBase + a) = some (M a)) :
    s.decodedPixels = glDecode M s.fmtW s.fmtH := by
  rw [State.decodedPixels, hkind]
  exact glDecode_congr hW fun a ha => State.ibuf_of_read (h a ha)

end

/-- Settles O22: DECODE attaches no palette and writes the pixels of the glyph decode. -/
theorem decodeWritesGlyphPixels : Obligations.DecodeWritesGlyphPixels := by
  unfold Obligations.DecodeWritesGlyphPixels
  rintro s M W H rfl rfl hvalid hbit hW hfits henough hread
  have hkind : s.fmtKind = .font1bit := (ctrlKind_eq_font1bit_iff _).mpr hbit
  have hneed : s.need = needGL s.fmtW s.fmtH := by rw [State.need, hkind]
  have hready : s.DecodeReady :=
    ⟨hvalid, hfits, hneed.trans_le henough, fun a ha => by rw [hread a (ha.trans_eq hneed)]; rfl⟩
  have hpixels : s.decodedPixels = glDecode M s.fmtW s.fmtH := State.decodedPixels_of_glyphRead hkind hW hread
  have hdecode : execDecode s = .next ((State.complete { s with palSrc := .noPalette }).withOutput
      (s.mem.store obufBase s.decodedPixels) (BitVec.ofNat 32 (s.fmtW * s.fmtH))) := by
    rw [execDecode_of_ready hready, State.attachForKind_font1bit hkind]
    rfl
  refine ⟨_, hdecode, rfl, fun x y hx hy => ?pixel, fun a ha => execDecode_read_outside hdecode ha⟩
  case pixel =>
    obtain ⟨hplace, -, -⟩ := rowMajor_lt_mod_div hx hy
    calc (s.mem.store obufBase s.decodedPixels).read (obufBase + (y * s.fmtW + x))
        = s.decodedPixels[y * s.fmtW + x]? := State.read_obuf_decodedPixels s.mem hplace
      _ = (glDecode M s.fmtW s.fmtH)[y * s.fmtW + x]? := by rw [hpixels]
      _ = _ := glDecode_pixel M hx hy

end Sys2Proof.Machine
end

section
/-! SUPPORT. The format-ID dispatcher (44_dispatch.md): NOP, the failures of SELFMT and of DECODE in the order of their
checks, and where the addresses of a successful DECODE lie. -/

namespace Sys2Proof.Machine

/-- Settles O11: NOP is the successful completion. -/
theorem nopCompletes : Obligations.NopCompletes := by
  unfold Obligations.NopCompletes
  exact fun _ => rfl

/-! The descriptor SELFMT works on (R224), and its failures in the order of R225. -/

section
variable {s : State} {fid : FormatId}

theorem State.descOf_user (s : State) : s.descOf 15 = ⟨s.ufmtGeom, s.ufmtCtrl⟩ := dif_neg (by decide)

/-- The descriptor of a format ID, from the ROM entry or the user registers (R224). -/
theorem State.descOf_eq {d : Descriptor} (hrom : ∀ h : fid.toNat < 15, s.params.formatRom[fid.toNat] = d)
    (huser : fid = 15 → (⟨s.ufmtGeom, s.ufmtCtrl⟩ : Descriptor) = d) : s.descOf fid = d := by
  by_cases h : fid.toNat < 15
  · exact (State.descOf_rom s h).trans (hrom h)
  · obtain rfl : fid = 15 := by bv_omega
    exact (State.descOf_user s).trans (huser rfl)

theorem execSelfmt_of_unknownFormat (hf : fid ≠ 15) (hv : (s.descOf fid).ctrl.getLsbD 31 = false) :
    execSelfmt fid s = .next (s.raiseNoFormat .unknownFormat) := if_pos ⟨hf, hv⟩

/-- A valid entry, or the user's, passes the first check of SELFMT. -/
theorem State.not_invalidEntry (hv : fid = 15 ∨ (s.descOf fid).ctrl.getLsbD 31 = true) :
    ¬ (fid ≠ 15 ∧ (s.descOf fid).ctrl.getLsbD 31 = false) :=
  fun ⟨hf, hc⟩ => Bool.false_ne_true (hc.symm.trans (hv.resolve_left hf))

variable (hv : fid = 15 ∨ (s.descOf fid).ctrl.getLsbD 31 = true)
include hv

theorem execSelfmt_of_illegalDescriptor (hl : legalDesc ((s.descOf fid).ctrl.setWidth 31) = false) :
    execSelfmt fid s = .next (s.raiseNoFormat .illegalDescriptor) :=
  (if_neg (State.not_invalidEntry hv)).trans (if_pos hl)

variable (hl : legalDesc ((s.descOf fid).ctrl.setWidth 31) = true)
include hl

theorem execSelfmt_of_geometry (hw : geomW (s.descOf fid).geom % 8 ≠ 0) :
    execSelfmt fid s = .next (s.raiseNoFormat .geometry) :=
  (if_neg (State.not_invalidEntry hv)).trans ((if_neg (by simp [hl])).trans (if_pos hw))

theorem execSelfmt_of_capacity (hw : geomW (s.descOf fid).geom % 8 = 0)
    (hfit : s.params.obufSize < geomW (s.descOf fid).geom * geomH (s.descOf fid).geom) :
    execSelfmt fid s = .next (s.raiseNoFormat .capacity) :=
  (if_neg (State.not_invalidEntry hv)).trans
    ((if_neg (by simp [hl])).trans ((if_neg (not_not_intro hw)).trans (if_pos hfit)))

end

/-- Settles O16: the format's descriptor passes the four checks of R225, or fails the first of them that it fails. -/
theorem selfmtSelectsOrReports : Obligations.SelfmtSelectsOrReports := by
  unfold Obligations.SelfmtSelectsOrReports
  intro fid s g c hrom huser
  have hdesc : s.descOf fid = ⟨g, c⟩ :=
    State.descOf_eq hrom fun hf => by obtain ⟨hg, hc⟩ := huser hf; rw [hg, hc]
  obtain rfl : (s.descOf fid).geom = g := by rw [hdesc]
  obtain rfl : (s.descOf fid).ctrl = c := by rw [hdesc]
  refine ⟨fun hv hl hw hfit => ?selects, execSelfmt_of_unknownFormat, execSelfmt_of_illegalDescriptor,
    execSelfmt_of_geometry, execSelfmt_of_capacity⟩
  case selects =>
    have hgeom : geometryFits s.params.obufSize (s.descOf fid).geom = true :=
      Bool.and_eq_true_iff.mpr ⟨decide_eq_true hw, decide_eq_true hfit⟩
    exact execSelfmt_of_legal hv.resolve_left hl hgeom

/-! The failures of DECODE in the order of R230. -/

section
variable {s : State}

theorem execDecode_of_noFormat (hv : s.fmtValid = false) : execDecode s = .next (s.raiseNoOutput .noFormat) := if_pos hv

theorem execDecode_of_capacity (hv : s.fmtValid = true) (hlen : s.params.ibufSize < s.inputLength) :
    execDecode s = .next (s.raiseNoOutput .capacity) :=
  (if_neg (by simp [hv])).trans (if_pos hlen)

theorem execDecode_of_formatLength (hv : s.fmtValid = true) (hlen : s.inputLength ≤ s.params.ibufSize)
    (hneed : s.inputLength < s.need) : execDecode s = .next (s.raiseNoOutput .formatLength) :=
  (if_neg (by simp [hv])).trans ((if_neg (Nat.not_lt.mpr hlen)).trans (if_pos hneed))

end

/-- Settles O23, by the first check that fails. -/
theorem decodeReportsItsFirstError : Obligations.DecodeReportsItsFirstError := by
  unfold Obligations.DecodeReportsItsFirstError
  exact fun s => ⟨execDecode_of_noFormat, execDecode_of_capacity,
    fun hv hlen hneed => execDecode_of_formatLength hv hlen (hneed.trans_eq s.need_eq.symm)⟩

/-! The addresses of a successful DECODE (R233). -/

theorem State.Inv.fmtW_mod_eight {s : State} (h : s.Inv) (hv : s.fmtValid = true) : s.fmtW % 8 = 0 := by
  have hfits := h.fmtFits hv
  simp only [geometryFits, Bool.and_eq_true, decide_eq_true_eq] at hfits
  exact hfits.1

/-- Settles O43: the offsets a decode reads lie below `need`, which DECODE has checked against IN_LEN, and the pixels of a
selected format fit in OBUF. -/
theorem decodeStaysInTheBuffers : Obligations.DecodeStaysInTheBuffers := by
  unfold Obligations.DecodeStaysInTheBuffers
  intro s t hinv ht herr
  have hready : s.DecodeReady := decodeReady_of_execDecode ht herr
  have hW : s.fmtW % 8 = 0 := hinv.fmtW_mod_eight hready.valid
  have henough := hready.enough
  rw [State.need_eq] at henough
  refine ⟨henough, hready.fits, fun p x y hp hx hy hbit => ?plane, fun x y hx hy hbit => ?glyph, fun a ha => ?pixels⟩
  case plane =>
    rw [hbit] at henough
    exact (planeAddr_lt hW hp hx hy).trans_le henough
  case glyph =>
    rw [hbit] at henough
    exact (glyphAddr_lt hW hx hy).trans_le henough
  case pixels =>
    obtain ⟨hlo, hhi⟩ : obufBase ≤ a ∧ a < obufBase + s.fmtW * s.fmtH :=
      by_contra fun hout => ha (execDecode_read_outside ht hout)
    exact ⟨hlo, hhi.trans_le (Nat.add_le_add_left (hinv.pixels_fit hready.valid) _)⟩

/-- Settles O33: the bitplane decode law (O21) on an 8 x 8 image whose bytes are all 0, so that every plane bit of every
pixel is 0. -/
theorem zeroImageDecodesToEntryZero : Obligations.ZeroImageDecodesToEntryZero := by
  unfold Obligations.ZeroImageDecodesToEntryZero
  intro s hvalid hgeom hlegal hbit henough hfits hzero
  have hW : 8 = s.fmtW := by rw [State.fmtW, hgeom]; rfl
  have hH : 8 = s.fmtH := by rw [State.fmtH, hgeom]; rfl
  obtain ⟨t, u, ht, _, hframe, hpixel, _⟩ :=
    decodeWritesBitplanePixels s (fun _ => 0) 8 8 hW hH hvalid hlegal hbit rfl hfits henough hzero
  refine ⟨t, ht, congrArg State.outLen hframe, congrArg State.errCode hframe, fun a ha => ⟨0, ?_, rfl, rfl⟩⟩
  have hrow : a / 8 < 8 := Nat.div_lt_of_lt_mul ha
  have hread := hpixel (a % 8) (a / 8) (Nat.mod_lt _ (by decide)) hrow
  rw [Nat.div_add_mod'] at hread
  simpa using hread

end Sys2Proof.Machine
end

section
/-! SUPPORT. The two ends of a command (60_exceptions.md R302, R303): it completes, or it raises one of the errors of its row of
R306 and leaves its own mark. -/

namespace Sys2Proof.Machine

/-- The errors of the command's row of R306; ILLEGAL_CMD, of the row for all, is that of a word that is no command (R305). -/
def ownErrors : Instr → List ErrCode
  | .nop | .deint | .unpack => []
  | .selfmt _ => [.unknownFormat, .illegalDescriptor, .geometry, .capacity]
  | .ldbank => [.capacity, .formatBankLen]
  | .ldpal => [.capacity, .formatLength]
  | .resolve => [.noFormat]
  | .decode => [.noFormat, .capacity, .formatLength]

theorem ne_ok_of_mem_ownErrors {i : Instr} {e : ErrCode} (he : e ∈ ownErrors i) : e ≠ .ok := by
  rintro rfl
  cases i <;> simp [ownErrors] at he

/-- The failed completion of the command i, with the mark i leaves (R303). -/
def State.raiseOf (s : State) (i : Instr) (e : ErrCode) : State :=
  match i with
  | .selfmt _ => s.raiseNoFormat e
  | .ldbank => s.raiseNoBank e
  | .decode => s.raiseNoOutput e
  | .nop | .ldpal | .resolve | .deint | .unpack => s.raise e

/-- A failed completion writes the completion status and the command's mark, and nothing else (R303). -/
theorem State.raiseOf_eq (s : State) (i : Instr) (e : ErrCode) : s.raiseOf i e =
    { s with
      bankLen := if i = .ldbank then 0 else s.bankLen
      fmtValid := match i with
        | .selfmt _ => false
        | _ => s.fmtValid
      outLen := if i = .decode then 0 else s.outLen
      errCode := e
      err := true
      done := true
      busy := false } := by
  cases i <;> rfl

/-- How the command i, run on s, ends in t. A state is its own successful completion when it has that status (R302). -/
inductive Ends (i : Instr) (s t : State) : Prop where
  | completed (h : t = t.complete)
  | raised (e : ErrCode) (he : e ∈ ownErrors i) (h : t = s.raiseOf i e)

section
variable {s t : State}

theorem execSelfmt_ends {fid : FormatId} (ht : execSelfmt fid s = .next t) : Ends (.selfmt fid) s t := by
  rcases execSelfmt_cases fid s with ⟨e, he, h⟩ | ⟨_, _, _, h⟩ <;> rw [h] at ht <;> cases ht
  · exact .raised e (by simpa [ownErrors] using he) rfl
  · exact .completed rfl

theorem execLdbank_ends (ht : execLdbank s = .next t) : Ends .ldbank s t := by
  rcases execLdbank_cases s with ⟨e, he, h⟩ | ⟨_, _, _, h⟩ <;> rw [h] at ht
  · cases ht
    exact .raised e (by simpa [ownErrors] using he) rfl
  · obtain ⟨⟨⟩, _⟩ := State.withInput_next ht
    exact .completed rfl

theorem execLdpal_ends (ht : execLdpal s = .next t) : Ends .ldpal s t := by
  rcases execLdpal_cases s with ⟨e, he, h⟩ | ⟨_, _, h⟩ <;> rw [h] at ht
  · cases ht
    exact .raised e (by simpa [ownErrors] using he) rfl
  · obtain ⟨⟨⟩, _⟩ := State.withInput_next ht
    exact .completed rfl

/-- Attaching a palette ends in no error (41_palette_resolver.md R165). -/
theorem State.attachAndComplete_completed (ht : s.attachAndComplete = .next t) : t = t.complete := by
  rcases State.attachAndComplete_cases s with ⟨rule, _, h⟩ | ⟨_, h⟩ <;> rw [h] at ht <;> cases ht
  rfl

theorem execResolve_ends (ht : execResolve s = .next t) : Ends .resolve s t := by
  rcases execResolve_cases s with ⟨_, h⟩ | ⟨_, h⟩ <;> rw [h] at ht
  · cases ht
    exact .raised .noFormat (by simp [ownErrors]) rfl
  · exact .completed (State.attachAndComplete_completed ht)

theorem execDecode_ends (ht : execDecode s = .next t) : Ends .decode s t := by
  rcases execDecode_cases s with ⟨e, he, h⟩ | ⟨_, _, _, ⟨_, h⟩ | ⟨_, h⟩⟩ <;> rw [h] at ht
  · cases ht
    exact .raised e (by simpa [ownErrors] using he) rfl
  · obtain ⟨hattach, _⟩ := State.withInput_next ht
    exact .completed (State.attachAndComplete_completed hattach)
  · obtain ⟨⟨⟩, _⟩ := State.withInput_next ht
    exact .completed rfl

theorem exec_ends {i : Instr} (ht : exec i s = .next t) : Ends i s t := by
  cases i with
  | nop | deint | unpack => cases ht; exact .completed rfl
  | selfmt fid => exact execSelfmt_ends ht
  | ldbank => exact execLdbank_ends ht
  | ldpal => exact execLdpal_ends ht
  | resolve => exact execResolve_ends ht
  | decode => exact execDecode_ends ht

/-- The completion status, of either end (R310): BUSY is 0, DONE is 1 and ERR says whether there is an error. -/
theorem Ends.status {i : Instr} (h : Ends i s t) :
    t.busy = false ∧ t.done = true ∧ (t.err = true ↔ t.errCode ≠ .ok) := by
  cases h with
  | completed h => rw [h]; simp
  | raised e he h => rw [h, State.raiseOf_eq]; simp [ne_ok_of_mem_ownErrors he]

theorem Ends.errCode_mem {i : Instr} (h : Ends i s t) : t.errCode ∈ ErrCode.ok :: ownErrors i := by
  cases h with
  | completed h => rw [h]; simp
  | raised e he h => rw [h, State.raiseOf_eq]; exact List.mem_cons_of_mem _ he

/-- An end with ERR = 1 is the failed one (R302). -/
theorem Ends.raiseOf_of_err {i : Instr} (h : Ends i s t) (herr : t.err = true) : t = s.raiseOf i t.errCode := by
  cases h with
  | completed h => rw [h] at herr; cases herr
  | raised e _ h =>
    have hcode : t.errCode = e := by rw [h, State.raiseOf_eq]
    rw [hcode, h]

end

/-- Settles O38: either end sets the completion status, and no command writes CTRL.IE. -/
theorem everyCompletionReports : Obligations.EveryCompletionReports := by
  unfold Obligations.EveryCompletionReports
  intro i s t ht
  obtain ⟨hbusy, hdone, herr⟩ := (exec_ends ht).status
  obtain ⟨⟨_, _, hie, _⟩, _⟩ := commandsWriteOnlyTheirColumn i s t ht
  exact ⟨hbusy, hdone, herr, by rw [State.irq, hdone, hie, Bool.true_and]⟩

/-- Settles O39, by the row of each command. -/
theorem commandsReportTheirOwnErrors : Obligations.CommandsReportTheirOwnErrors := by
  unfold Obligations.CommandsReportTheirOwnErrors
  intro i s t ht
  have hcode := (exec_ends ht).errCode_mem
  cases i with
  | nop | deint | unpack => exact List.mem_singleton.mp hcode
  | selfmt | ldbank | ldpal | resolve | decode => exact hcode

/-- Settles O41: an end with ERR = 1 is the command's failed completion. -/
theorem failedCommandsWriteOnlyTheirMark : Obligations.FailedCommandsWriteOnlyTheirMark := by
  unfold Obligations.FailedCommandsWriteOnlyTheirMark
  intro i s t ht herr
  exact ((exec_ends ht).raiseOf_of_err herr).trans (State.raiseOf_eq s i t.errCode)

end Sys2Proof.Machine
end

section
/-! SUPPORT. The faults of a step (60_exceptions.md R314): those of the host's accesses and those of the Engine's reads of
IBUF. -/

namespace Sys2Proof.Machine

/-- The fault f is an access to an unwritten IBUF byte (70_reset_and_hazards.md R402). -/
def State.UnwrittenInput (s : State) (f : Fault) : Prop := ∃ x, f = .uninitInput x ∧ s.mem.read x = none

/-- The fault f is one of a host access: a bus error (20_memory.md R73), or an access R407 does not allow while BUSY = 1. -/
def State.HostFault (s : State) (f : Fault) : Prop :=
  (∃ a n, f = .hostBusError a n) ∨ (s.busy = true ∧ ∃ a, f = .hostAccessWhileBusy a)

section
variable {s : State} {f : Fault}

/-! The Engine's faults. -/

/-- When what follows the reads cannot fault, only the reads can. -/
theorem State.unwrittenInput_of_withInput {offsets : List Nat} {o : Host.Outcome State Fault Refusal}
    (hf : s.withInput offsets o = .fault f) (ho : o ≠ .fault f) : s.UnwrittenInput f := by
  rcases State.withInput_fault hf with h | ⟨a, _, hread, rfl⟩
  · exact absurd h ho
  · exact ⟨ibufBase + a, rfl, hread⟩

/-- A selected format has a palette rule, so that the model's own fault (log 11) does not happen. -/
theorem State.Inv.attachAndComplete_ne_fault (h : s.Inv) (hv : s.fmtValid = true) : s.attachAndComplete ≠ .fault f := by
  obtain ⟨rule, hrule⟩ := paletteRule_of_legal (h.fmtLegal hv)
  rcases State.attachAndComplete_cases s with ⟨_, _, hx⟩ | ⟨hnone, _⟩
  · simp [hx]
  · cases hrule.symm.trans hnone

theorem execLdbank_fault (hf : execLdbank s = .fault f) : s.UnwrittenInput f := by
  rcases execLdbank_cases s with ⟨e, _, h⟩ | ⟨_, _, _, h⟩ <;> rw [h] at hf
  · cases hf
  · exact State.unwrittenInput_of_withInput hf nofun

theorem execLdpal_fault (hf : execLdpal s = .fault f) : s.UnwrittenInput f := by
  rcases execLdpal_cases s with ⟨e, _, h⟩ | ⟨_, _, h⟩ <;> rw [h] at hf
  · cases hf
  · exact State.unwrittenInput_of_withInput hf nofun

theorem State.Inv.execResolve_ne_fault (h : s.Inv) : execResolve s ≠ .fault f := by
  rcases execResolve_cases s with ⟨_, hx⟩ | ⟨hv, hx⟩ <;> rw [hx]
  · exact nofun
  · exact h.attachAndComplete_ne_fault hv

theorem State.Inv.execDecode_fault (h : s.Inv) (hf : execDecode s = .fault f) : s.UnwrittenInput f := by
  rcases execDecode_cases s with ⟨e, _, hx⟩ | ⟨hv, _, _, ⟨_, hx⟩ | ⟨_, hx⟩⟩ <;> rw [hx] at hf
  · cases hf
  · exact State.unwrittenInput_of_withInput hf ((h.writePixels hv).attachAndComplete_ne_fault hv)
  · exact State.unwrittenInput_of_withInput hf nofun

/-- Under the invariant a command faults only on an unwritten input byte. -/
theorem State.Inv.exec_fault (h : s.Inv) {i : Instr} (hf : exec i s = .fault f) : s.UnwrittenInput f := by
  cases i with
  | nop | deint | unpack => cases hf
  | selfmt fid =>
    change execSelfmt fid s = _ at hf
    rcases execSelfmt_cases fid s with ⟨e, _, hx⟩ | ⟨_, _, _, hx⟩ <;> rw [hx] at hf <;> cases hf
  | ldbank => exact execLdbank_fault hf
  | ldpal => exact execLdpal_fault hf
  | resolve => exact absurd hf h.execResolve_ne_fault
  | decode => exact h.execDecode_fault hf

/-! The host's faults. -/

theorem hostRead_fault {n : Width} {a : Addr} (hf : hostRead n a s = .fault f) : s.HostFault f := by
  rcases hostRead_cases n a s with ⟨_, h⟩ | ⟨_, hbusy, _, h⟩ | ⟨_, _, h⟩ <;> rw [h] at hf <;> cases hf
  · exact .inl ⟨_, _, rfl⟩
  · exact .inr ⟨hbusy, _, rfl⟩

theorem hostWrite_fault {n : Width} {a : Addr} {v : Word} (hf : hostWrite n a v s = .fault f) : s.HostFault f := by
  rcases hostWrite_cases n a v s with ⟨_, h⟩ | ⟨_, hbusy, _, h⟩ | ⟨_, _, h⟩ <;> rw [h] at hf <;> cases hf
  · exact .inl ⟨_, _, rfl⟩
  · exact .inr ⟨hbusy, _, rfl⟩

theorem hostStep_fault (hf : hostStep s = .fault f) : s.HostFault f := by
  rcases hostStep_cases s with ⟨_, h⟩ | ⟨n, a, rest, _, h⟩ | ⟨n, a, v, rest, _, h⟩ | ⟨rest, p, _, _, h⟩ <;> rw [h] at hf
  · cases hf
  · exact hostRead_fault (s := { s with program := rest }) hf
  · exact hostWrite_fault (s := { s with program := rest }) hf
  · cases hf

end

/-- Settles O45, by the turns a step can take. -/
theorem faultsAreThoseOfTheSpec : Obligations.FaultsAreThoseOfTheSpec := by
  unfold Obligations.FaultsAreThoseOfTheSpec
  intro s f hinv hf
  rcases step_cases hinv.params with ⟨i, hturn, hbusy, _, h⟩ | ⟨_, _, _, _, h⟩ | ⟨_, _, h⟩ | ⟨hturn, h⟩ | ⟨_, h⟩ <;>
    rw [h] at hf
  · exact .inr (.inr ⟨hturn, hbusy, hinv.engineState.exec_fault hf⟩)
  · cases hf
  · cases hf
  · rcases hostStep_fault hf with hbus | ⟨hbusy, haccess⟩
    · exact .inl ⟨hturn, hbus⟩
    · exact .inr (.inl ⟨hturn, hbusy, haccess⟩)
  · cases hf

end Sys2Proof.Machine
end

section
/-! SUPPORT. How the command before ended (60_exceptions.md R304): no command reads ERRCODE, ERR or DONE, and both completions
write all three. -/

namespace Sys2Proof.Machine

/-- s as it would be had the command before ended with this ERRCODE, ERR and DONE. -/
def State.withOutcome (e : ErrCode) (b d : Bool) (s : State) : State := { s with errCode := e, err := b, done := d }

section
variable (e : ErrCode) (b d : Bool) (s : State)

/-- The successful completion overwrites the earlier outcome (R302). -/
theorem State.complete_withOutcome : (s.withOutcome e b d).complete = s.complete := rfl

theorem State.attachPalette_withOutcome (rule : PaletteRule) :
    (s.withOutcome e b d).attachPalette rule = (s.attachPalette rule).withOutcome e b d := by
  have hres : (s.withOutcome e b d).resolvePal rule = s.resolvePal rule := State.resolvePal_congr rfl rfl rfl rule
  unfold State.attachPalette
  rw [hres]
  cases s.resolvePal rule <;> rfl

theorem State.attachAndComplete_withOutcome : (s.withOutcome e b d).attachAndComplete = s.attachAndComplete := by
  have hrule : (s.withOutcome e b d).fmtRule = s.fmtRule := rfl
  unfold State.attachAndComplete
  simp only [hrule, State.attachPalette_withOutcome, State.complete_withOutcome]

theorem execResolve_withOutcome : execResolve (s.withOutcome e b d) = execResolve s := by
  unfold execResolve
  rw [State.attachAndComplete_withOutcome]
  rfl

/-- The pixels do not depend on the earlier outcome, and writing them keeps it. -/
theorem State.writePixels_withOutcome : (s.withOutcome e b d).writePixels = s.writePixels.withOutcome e b d := rfl

theorem execDecode_withOutcome : execDecode (s.withOutcome e b d) = execDecode s := by
  unfold execDecode
  rw [State.writePixels_withOutcome, State.attachAndComplete_withOutcome]
  rfl

/-- No command depends on the earlier outcome. -/
theorem exec_withOutcome (i : Instr) : exec i (s.withOutcome e b d) = exec i s := by
  cases i with
  | nop | deint | unpack | selfmt | ldbank | ldpal => rfl
  | resolve => exact execResolve_withOutcome e b d s
  | decode => exact execDecode_withOutcome e b d s

end

/-- Settles O42, from the same law of every command. -/
theorem commandsIgnoreEarlierOutcomes : Obligations.CommandsIgnoreEarlierOutcomes := by
  unfold Obligations.CommandsIgnoreEarlierOutcomes
  exact fun i s e b d => exec_withOutcome e b d s i

end Sys2Proof.Machine
end

section
/-! SUPPORT. The end of a pending command (70_reset_and_hazards.md R405, R406): every turn ends it or is one of the host's, and
those the schedule bounds. -/

namespace Sys2Proof.Machine

/-- With no turn left in the schedule a busy Engine moves (log 4). -/
theorem State.nextTurn_of_unscheduled {s : State} (hnil : s.schedule = []) (hbusy : s.busy = true) :
    s.nextTurn = .engine := by
  simp [State.nextTurn, hnil, hbusy]

/-- Settles O3: scheduled or not, it is the Engine's turn. -/
theorem stepRunsTheDecodedCommand : Obligations.StepRunsTheDecodedCommand := by
  unfold Obligations.StepRunsTheDecodedCommand
  intro s i hp hbusy hsched hd
  have hturn : s.nextTurn = .engine := by
    rcases hsched with hhead | hnil
    · exact State.nextTurn_of_head? hhead
    · exact State.nextTurn_of_unscheduled hnil hbusy
  exact step_of_decode_ok hp hturn hbusy hd

/-- The command is over: no command is pending any more, or a fault has ended the run (R406). -/
def CommandOver (o : Host.Outcome State Fault Refusal) : Prop := (∃ t, o = .next t ∧ t.busy = false) ∨ ∃ f, o = .fault f

theorem commandOver_exec (i : Instr) (s : State) : CommandOver (exec i s) := by
  cases h : exec i s with
  | next t =>
    obtain ⟨hbusy, _, _⟩ := (exec_ends h).status
    exact .inl ⟨t, rfl, hbusy⟩
  | fault f => exact .inr ⟨f, rfl⟩
  | refused r => exact absurd h (exec_ne_refused i s r)

/-- The host's operation keeps the configuration and the turns. -/
theorem hostStep_frame {s t : State} (ht : hostStep s = .next t) : t.params = s.params ∧ t.schedule = s.schedule := by
  rcases hostStep_cases s with ⟨_, h⟩ | ⟨n, a, rest, _, h⟩ | ⟨n, a, v, rest, _, h⟩ | ⟨rest, p, _, _, h⟩ <;> rw [h] at ht
  · cases ht
    exact ⟨rfl, rfl⟩
  · rcases hostRead_cases n a { s with program := rest } with ⟨_, h⟩ | ⟨_, _, _, h⟩ | ⟨_, _, h⟩ <;> rw [h] at ht <;>
      cases ht
    exact ⟨rfl, rfl⟩
  · rcases hostWrite_cases n a v { s with program := rest } with ⟨_, h⟩ | ⟨_, _, _, h⟩ | ⟨_, _, h⟩ <;> rw [h] at ht <;>
      cases ht
    simp
  · cases ht
    exact ⟨rfl, rfl⟩

/-- A host turn is a turn of the schedule while a command is pending: the Engine has the unscheduled ones (log 4). -/
theorem State.schedule_of_hostTurn {s : State} (hturn : s.nextTurn = .host) (hbusy : s.busy = true) :
    ∃ rest, s.schedule = .host :: rest := by
  cases hs : s.schedule with
  | nil => cases hturn.symm.trans (State.nextTurn_of_unscheduled hs hbusy)
  | cons turn rest =>
    have hhead : s.nextTurn = turn := State.nextTurn_of_head? (by rw [hs]; rfl)
    exact ⟨rest, by rw [← hturn, hhead]⟩

/-- A step with a command pending ends it, or was a host turn of the schedule that leaves it pending. -/
theorem step_ends_or_waits {s : State} (hp : legalParams s.params = true) (hbusy : s.busy = true) :
    CommandOver (step s) ∨
      ∃ t, step s = .next t ∧ t.busy = true ∧ t.params = s.params ∧ s.schedule = .host :: t.schedule := by
  rcases step_cases hp with ⟨i, _, _, _, h⟩ | ⟨_, _, _, _, h⟩ | ⟨_, hidle, _⟩ | ⟨hturn, h⟩ | ⟨_, h⟩
  · exact .inl (h ▸ commandOver_exec i _)
  · exact .inl (.inl ⟨_, h, rfl⟩)
  · cases hbusy.symm.trans hidle
  · cases ht : hostStep s.takeTurn with
    | next t =>
      obtain ⟨hparams, hsched⟩ := hostStep_frame ht
      obtain ⟨rest, hrest⟩ := State.schedule_of_hostTurn hturn hbusy
      cases hb : t.busy with
      | false => exact .inl (.inl ⟨t, h.trans ht, hb⟩)
      | true => exact .inr ⟨t, h.trans ht, hb, hparams, by rw [hsched, State.takeTurn_schedule, hrest, List.tail_cons]⟩
    | fault f => exact .inl (.inr ⟨f, h.trans ht⟩)
    | refused r => exact absurd ht (hostStep_ne_refused _ r)
  · exact .inl (.inl ⟨_, h, rfl⟩)

theorem run_one (s : State) : Sys2Proof.core.run 1 s = step s := by
  have hstep : Sys2Proof.core.step s = step s := rfl
  simp only [Host.Core.run, hstep]
  cases step s <;> rfl

theorem run_succ_of_next {s t : State} (h : step s = .next t) (k : Nat) :
    Sys2Proof.core.run (k + 1) s = Sys2Proof.core.run k t := by
  have hstep : Sys2Proof.core.step s = .next t := h
  simp only [Host.Core.run, hstep]

/-- The bound of R406, by induction on the turns of the schedule: each is the last or one of the host's, and after them the Engine
moves. -/
theorem exists_commandOver_run {turns : List Turn} {s : State} (hsched : s.schedule = turns)
    (hp : legalParams s.params = true) (hbusy : s.busy = true) :
    ∃ k, k ≤ turns.length + 1 ∧ CommandOver (Sys2Proof.core.run k s) := by
  induction turns generalizing s with
  | nil =>
    rcases step_ends_or_waits hp hbusy with hover | ⟨t, _, _, _, hhost⟩
    · exact ⟨1, Nat.le_refl 1, (run_one s).symm ▸ hover⟩
    · cases hsched.symm.trans hhost
  | cons turn rest ih =>
    rcases step_ends_or_waits hp hbusy with hover | ⟨t, ht, htbusy, htparams, hhost⟩
    · exact ⟨1, Nat.le_add_left 1 _, (run_one s).symm ▸ hover⟩
    · have hrest : t.schedule = rest := (List.cons.inj (hhost.symm.trans hsched)).2
      obtain ⟨k, hk, hover⟩ := ih hrest (htparams ▸ hp) htbusy
      exact ⟨k + 1, Nat.succ_le_succ hk, (run_succ_of_next ht k).symm ▸ hover⟩

/-- Settles O9, with the schedule of the state as the turns. -/
theorem pendingCommandEndsWithinTheSchedule : Obligations.PendingCommandEndsWithinTheSchedule := by
  unfold Obligations.PendingCommandEndsWithinTheSchedule
  exact fun _ hp hbusy => exists_commandOver_run rfl hp hbusy

end Sys2Proof.Machine
end

section
/-! SUPPORT. The fault UninitInput of the commands that read IBUF (70_reset_and_hazards.md R402): when it happens, and which byte
it names. -/

namespace Sys2Proof.Machine

section
variable {s : State}

/-- Attaching a palette reads no IBUF byte (41_palette_resolver.md R162). -/
theorem State.attachForKind_ne_uninitInput (x : Nat) : s.attachForKind ≠ .fault (.uninitInput x) := by
  unfold State.attachForKind
  split
  · rcases State.attachAndComplete_cases s with ⟨rule, _, h⟩ | ⟨_, h⟩ <;> simp [h]
  · exact nofun

/-- A DECODE that passes its checks reads the first `need` bytes, then writes the pixels and attaches the palette
(44_dispatch.md R230). -/
theorem execDecode_of_checked (hv : s.fmtValid = true) (hfits : s.inputLength ≤ s.params.ibufSize)
    (henough : s.need ≤ s.inputLength) :
    execDecode s = s.withInput (List.range s.need) s.writePixels.attachForKind := by
  have hvalid : ¬ s.fmtValid = false := by simp [hv]
  rw [execDecode, if_neg hvalid, if_neg (Nat.not_lt.mpr hfits), if_neg (Nat.not_lt.mpr henough)]
  rfl

/-- Reads followed by what raises no UninitInput raise it exactly when one of the bytes is unwritten. -/
theorem State.withInput_uninitInput_iff {offsets : List Nat} {o : Host.Outcome State Fault Refusal}
    (ho : ∀ x, o ≠ .fault (.uninitInput x)) :
    (∃ x, s.withInput offsets o = .fault (.uninitInput x)) ↔ ∃ a ∈ offsets, s.mem.read (ibufBase + a) = none := by
  rcases State.withInput_cases s offsets o with ⟨h, hwritten⟩ | ⟨a, ha, hread, h⟩
  · refine iff_of_false (fun ⟨x, hx⟩ => ho x (h.symm.trans hx)) fun ⟨a, ha, hread⟩ => ?_
    simpa [hread] using hwritten a ha
  · exact iff_of_true ⟨_, h⟩ ⟨a, ha, hread⟩

end

/-- A byte of the first block that its parse reads (40_palette_table.md R133). -/
theorem exists_mem_blockOffsets_zero {P : Nat → Prop} :
    (∃ a ∈ blockOffsets 0, P a) ↔ ∃ i c, i < 16 ∧ c < 3 ∧ P (4 * i + c) := by
  constructor
  · rintro ⟨a, ha, hP⟩
    obtain ⟨i, c, hi, hc, rfl⟩ := mem_blockOffsets.mp ha
    exact ⟨i, c, hi, hc, by rwa [Nat.zero_add] at hP⟩
  · rintro ⟨i, c, hi, hc, hP⟩
    exact ⟨4 * i + c, mem_blockOffsets.mpr ⟨i, c, hi, hc, by rw [Nat.zero_add]⟩, hP⟩

/-- A byte of the first m blocks that their parse reads (R133, R140). -/
theorem exists_mem_bankOffsets {m : Nat} {P : Nat → Prop} :
    (∃ a ∈ bankOffsets m, P a) ↔ ∃ j i c, j < m ∧ i < 16 ∧ c < 3 ∧ P (64 * j + 4 * i + c) := by
  constructor
  · rintro ⟨a, ha, hP⟩
    obtain ⟨j, i, c, hj, hi, hc, rfl⟩ := mem_bankOffsets.mp ha
    exact ⟨j, i, c, hj, hi, hc, hP⟩
  · rintro ⟨j, i, c, hj, hi, hc, hP⟩
    exact ⟨_, mem_bankOffsets.mpr ⟨j, i, c, hj, hi, hc, rfl⟩, hP⟩

/-- Settles O24: each command that passes its checks is one read of its bytes, followed by what reads none. -/
theorem unwrittenInputIsAFaultExactlyWhenRead : Obligations.UnwrittenInputIsAFaultExactlyWhenRead := by
  unfold Obligations.UnwrittenInputIsAFaultExactlyWhenRead
  refine fun s => ⟨fun h64 hfits => ?ldpal, fun hfits h64 hmax => ?ldbank, ?decode⟩
  case ldpal =>
    change (∃ x, execLdpal s = _) ↔ _
    rw [execLdpal_of_one_block (h64.trans_le hfits) h64, State.withInput_uninitInput_iff ?_,
      exists_mem_blockOffsets_zero]
    exact nofun
  case ldbank =>
    change (∃ x, execLdbank s = _) ↔ _
    rw [execLdbank_of_blocks hfits h64 hmax, State.withInput_uninitInput_iff ?_, exists_mem_bankOffsets]
    exact nofun
  case decode =>
    rintro need hneed hv hfits henough
    obtain rfl : need = s.need := hneed.trans s.need_eq.symm
    change (∃ x, execDecode s = _) ↔ _
    rw [execDecode_of_checked hv hfits henough, State.withInput_uninitInput_iff State.attachForKind_ne_uninitInput]
    simp only [List.mem_range]

/-- The byte at x is one of IBUF below IN_LEN, not written since reset (10_state.md R45). -/
def State.UnwrittenInputByte (s : State) (x : Nat) : Prop :=
  s.mem.read x = none ∧ ibufBase ≤ x ∧ x < ibufBase + s.inputLength ∧ x < ibufBase + s.params.ibufSize

section
variable {s : State} {x : Nat}

/-- Reads below IN_LEN, with IN_LEN in IBUF and followed by what raises no UninitInput, name such a byte. -/
theorem State.unwrittenInputByte_of_withInput {offsets : List Nat} {o : Host.Outcome State Fault Refusal}
    (hlt : ∀ a ∈ offsets, a < s.inputLength) (hfits : s.inputLength ≤ s.params.ibufSize)
    (hf : s.withInput offsets o = .fault (.uninitInput x)) (ho : o ≠ .fault (.uninitInput x)) :
    s.UnwrittenInputByte x := by
  rcases State.withInput_fault hf with h | ⟨a, ha, hread, hx⟩
  · exact absurd h ho
  · obtain rfl : x = ibufBase + a := Fault.uninitInput.inj hx
    exact ⟨hread, Nat.le_add_right _ _, Nat.add_lt_add_left (hlt a ha) _,
      Nat.add_lt_add_left ((hlt a ha).trans_le hfits) _⟩

theorem execLdbank_uninitInput (hf : execLdbank s = .fault (.uninitInput x)) : s.UnwrittenInputByte x := by
  rcases execLdbank_cases s with ⟨e, _, h⟩ | ⟨hfits, _, _, h⟩ <;> rw [h] at hf
  · cases hf
  · exact State.unwrittenInputByte_of_withInput
      (fun a ha => (lt_of_mem_bankOffsets ha).trans_le (Nat.mul_div_le _ _)) hfits hf nofun

theorem execLdpal_uninitInput (hf : execLdpal s = .fault (.uninitInput x)) : s.UnwrittenInputByte x := by
  rcases execLdpal_cases s with ⟨e, _, h⟩ | ⟨hfits, h64, h⟩ <;> rw [h] at hf
  · cases hf
  · exact State.unwrittenInputByte_of_withInput
      (fun a ha => (lt_of_mem_blockOffsets ha).trans_eq h64.symm) hfits hf nofun

theorem execResolve_ne_uninitInput : execResolve s ≠ .fault (.uninitInput x) := by
  rcases execResolve_cases s with ⟨_, h⟩ | ⟨_, h⟩
  · simp [h]
  · rcases State.attachAndComplete_cases s with ⟨rule, _, h'⟩ | ⟨_, h'⟩ <;> simp [h, h']

theorem execDecode_uninitInput (hf : execDecode s = .fault (.uninitInput x)) : s.UnwrittenInputByte x := by
  rcases execDecode_cases s with ⟨e, _, h⟩ | ⟨hv, hfits, henough, _⟩
  · cases h.symm.trans hf
  · rw [execDecode_of_checked hv hfits henough] at hf
    exact State.unwrittenInputByte_of_withInput
      (fun a ha => (List.mem_range.mp ha).trans_le henough) hfits hf (State.attachForKind_ne_uninitInput x)

end

/-- Settles O25, command by command: only three read IBUF, each below the IN_LEN it has checked. -/
theorem uninitInputNamesAnUnwrittenByte : Obligations.UninitInputNamesAnUnwrittenByte := by
  unfold Obligations.UninitInputNamesAnUnwrittenByte
  intro i s x hf
  cases i with
  | nop | deint | unpack => cases hf
  | selfmt fid =>
    change execSelfmt fid s = _ at hf
    rcases execSelfmt_cases fid s with ⟨e, _, h⟩ | ⟨_, _, _, h⟩ <;> cases h.symm.trans hf
  | ldbank => exact execLdbank_uninitInput hf
  | ldpal => exact execLdpal_uninitInput hf
  | resolve => exact absurd hf execResolve_ne_uninitInput
  | decode => exact execDecode_uninitInput hf

end Sys2Proof.Machine
end

section
/-! SUPPORT. The host's accesses while BUSY = 1 (70_reset_and_hazards.md R407): the regions they may reach, by address. -/

namespace Sys2Proof.Machine

/-- The registers R407 lets the host read, at their offsets of 10_state.md R20. -/
theorem Reg.readableWhileBusy_iff (r : Reg) :
    r.readableWhileBusy = true ↔ (regAddr r).toNat ∈ [0x00, 0x04, 0x08, 0x0C, 0x10, 0x40, 0x44, 0x48] := by
  cases r <;> decide

/-- The registers R407 lets the host write, at their offsets of 10_state.md R20. -/
theorem Reg.writableWhileBusy_iff (r : Reg) :
    r.writableWhileBusy = true ↔ (regAddr r).toNat ∈ [0x04, 0x08, 0x10] := by
  cases r <;> decide

section
variable {p : Params} {n : Width} {a : Nat}

/-- All an access that is no bus error can reach: a register at its address, or a window at or above 0x400. Of the windows just
BROM and FROM lie from 0xC00 to 0xD80, and just they may be read while BUSY = 1. -/
theorem regionOf_of_busOk (hp : p.bankMax ≤ 16) (hok : busOk p n a = true) :
    (∃ r, regionOf p a = .reg r ∧ (regAddr r).toNat = a ∧ a < 0x4C) ∨
      (0x400 ≤ a ∧ (regionOf p a).writableWhileBusy = false ∧
        ((regionOf p a).readableWhileBusy = true ↔ 0xC00 ≤ a ∧ a < 0xD80)) := by
  obtain ⟨hmapped, _, _⟩ := (busOk_iff p n a).mp hok
  have ha : mappedByte p a := (regionOf_ne_unmapped_iff p a).mp (hmapped 0 n.bytes_pos)
  rcases regionOf_cases p a with ⟨h, _⟩ | ⟨h, r, _, hr⟩ | ⟨h, k, hr⟩ | ⟨h, j, i, hr⟩ | ⟨h, hr⟩ | ⟨h, f, c, hr⟩ |
    ⟨h, hr⟩ | ⟨h, hr⟩
  · exact absurd ha h
  · exact .inl ⟨r, hr, regAddr_of_busOk hok hr, h⟩
  all_goals
    right
    rw [hr]
    refine ⟨by omega, rfl, ?_⟩
    simp only [Region.readableWhileBusy, Bool.false_eq_true, true_iff, false_iff]
    omega

/-- What R407 lets the host read, by address. -/
theorem readableWhileBusy_iff (hp : p.bankMax ≤ 16) (hok : busOk p n a = true) :
    (regionOf p a).readableWhileBusy = true ↔
      a ∈ [0x00, 0x04, 0x08, 0x0C, 0x10, 0x40, 0x44, 0x48] ∨ (0x000C00 ≤ a ∧ a < 0x000D80) := by
  rcases regionOf_of_busOk hp hok with ⟨r, hr, rfl, hlt⟩ | ⟨hge, _, hread⟩
  · rw [hr, Region.readableWhileBusy, Reg.readableWhileBusy_iff]
    exact (or_iff_left fun h => by omega).symm
  · rw [hread]
    exact (or_iff_right fun h => by simp at h; omega).symm

/-- What R407 lets the host write, by address (log 10). -/
theorem writableWhileBusy_iff (hp : p.bankMax ≤ 16) (hok : busOk p n a = true) :
    (regionOf p a).writableWhileBusy = true ↔ a ∈ [0x04, 0x08, 0x10] := by
  rcases regionOf_of_busOk hp hok with ⟨r, hr, rfl, _⟩ | ⟨hge, hwrite, _⟩
  · rw [hr, Region.writableWhileBusy, Reg.writableWhileBusy_iff]
  · exact iff_of_false (by simp [hwrite]) fun h => by simp at h; omega

end

section
variable {s : State} {n : Width} {a : Addr}

/-- A read while BUSY = 1 completes where R407 allows it and is HostAccessWhileBusy elsewhere. -/
theorem hostRead_busy (hbusy : s.busy = true) (hok : busOk s.params n a.toNat = true) :
    ((regionOf s.params a.toNat).readableWhileBusy = true → ∃ t, hostRead n a s = .next t) ∧
      (¬ (regionOf s.params a.toNat).readableWhileBusy = true →
        hostRead n a s = .fault (.hostAccessWhileBusy a.toNat)) := by
  rcases hostRead_cases n a s with ⟨hbad, _⟩ | ⟨_, _, hno, h⟩ | ⟨_, hyes, h⟩
  · cases hok.symm.trans hbad
  · exact ⟨fun hyes => absurd hyes (ne_true_of_eq_false hno), fun _ => h⟩
  · exact ⟨fun _ => ⟨_, h⟩, fun hno => absurd (hyes hbusy) hno⟩

/-- A write while BUSY = 1 completes where R407 allows it and is HostAccessWhileBusy elsewhere (log 10). -/
theorem hostWrite_busy (v : Word) (hbusy : s.busy = true) (hok : busOk s.params n a.toNat = true) :
    ((regionOf s.params a.toNat).writableWhileBusy = true → ∃ t, hostWrite n a v s = .next t) ∧
      (¬ (regionOf s.params a.toNat).writableWhileBusy = true →
        hostWrite n a v s = .fault (.hostAccessWhileBusy a.toNat)) := by
  rcases hostWrite_cases n a v s with ⟨hbad, _⟩ | ⟨_, _, hno, h⟩ | ⟨_, hyes, h⟩
  · cases hok.symm.trans hbad
  · exact ⟨fun hyes => absurd hyes (ne_true_of_eq_false hno), fun _ => h⟩
  · exact ⟨fun _ => ⟨_, h⟩, fun hno => absurd (hyes hbusy) hno⟩

end

/-- Settles O49: an access that is no bus error completes exactly at the addresses of R407. -/
theorem busyAllowsOnlyTheListedAccesses : Obligations.BusyAllowsOnlyTheListedAccesses := by
  unfold Obligations.BusyAllowsOnlyTheListedAccesses
  intro s n a v hp hbusy herr
  have hok : busOk s.params n a.toNat = true := (busOk_iff_not_busErrorAt hp n a.toNat).mpr herr
  have hbank := bankMax_le_of_legal hp
  rw [← readableWhileBusy_iff hbank hok, ← writableWhileBusy_iff hbank hok]
  obtain ⟨hreads, hnoRead⟩ := hostRead_busy hbusy hok
  exact ⟨hreads, hnoRead, hostWrite_busy v hbusy hok⟩

end Sys2Proof.Machine
end

section
/-! SUPPORT. The state after reset (70_reset_and_hazards.md R401), and the turn of the platform's reset (R400, R403). -/

namespace Sys2Proof.Machine

/-- STATUS after reset: PAL_SRC says grey, every flag is 0 (10_state.md R23, R41). -/
theorem State.initial_statusWord (p : Params) : (State.initial p).statusWord = 0x00000060 := by
  simp [State.statusWord, State.initial, PalSrc.code]

/-- FMT_CTRL after reset: no format is selected (10_state.md R31). -/
theorem State.initial_fmtCtrlWord (p : Params) : (State.initial p).fmtCtrlWord = 0 := by
  simp [State.fmtCtrlWord, State.initial]

theorem State.initial_pbank (p : Params) (j : Fin 16) : (State.initial p).pbank[j] = none :=
  Vector.getElem_replicate j.isLt

/-- After reset no byte from IBUF up is written (10_state.md R45, R46). -/
theorem State.initial_read (p : Params) {a : Nat} (h : ibufBase ≤ a) : (State.initial p).mem.read a = none := by
  have hrom : Memory.unlisted a = none := Memory.unlisted_eq_none (le_trans (by decide) h)
  rw [Memory.read, hrom]
  rfl

/-- The turn of the platform's reset (R400). -/
theorem step_of_reset {s : State} (hp : legalParams s.params = true) (hturn : s.nextTurn = .reset) :
    step s = .next s.takeTurn.platformReset := by
  rcases step_cases hp with ⟨_, ht, _⟩ | ⟨_, ht, _⟩ | ⟨ht, _⟩ | ⟨ht, _⟩ | ⟨_, h⟩
  · cases hturn.symm.trans ht
  · cases hturn.symm.trans ht
  · cases hturn.symm.trans ht
  · cases hturn.symm.trans ht
  · exact h

/-- Settles O6: the platform's reset gives the block the state after reset and keeps what is not the block's. -/
theorem resetTurnSetsTheResetState : Obligations.ResetTurnSetsTheResetState := by
  unfold Obligations.ResetTurnSetsTheResetState
  intro s hp hhead
  exact ⟨_, step_of_reset hp (State.nextTurn_of_head? hhead), rfl, State.initial_statusWord s.params, rfl, rfl, rfl, rfl, rfl,
    rfl, rfl, rfl, State.initial_fmtCtrlWord s.params, rfl, rfl, rfl, rfl, rfl, rfl, rfl, State.initial_pbank s.params, rfl,
    rfl, rfl⟩

/-- Settles O7: the registers are fixed words, the palette is the grey ramp and no byte of IBUF or OBUF is written. -/
theorem resetHoldsTheSpecValues : Obligations.ResetHoldsTheSpecValues := by
  unfold Obligations.ResetHoldsTheSpecValues
  exact ⟨rfl, rfl, State.initial_statusWord defaultParams, rfl, rfl, rfl, rfl, rfl, rfl, rfl, rfl,
    State.initial_fmtCtrlWord defaultParams, rfl, rfl, rfl, rfl, rfl,
    rfl, rfl, rfl, fun i => gray_getElem i i.isLt, fun _ h => State.initial_read defaultParams h⟩

/-- Settles O35, from the invariant of the state after reset, whose default configuration is legal (00_scope.md R10). -/
theorem resetHasTheInvariant : Obligations.ResetHasTheInvariant := by
  unfold Obligations.ResetHasTheInvariant
  exact ⟨fun _ hp => State.initial_inv hp, State.initial_inv defaultParams_legal⟩

end Sys2Proof.Machine
end
